-- ==== Sys2Proof/Word.lean ====
section
/-! DEFINITION. Word.lean: the word types of the machine and the eight bytes of a program slot. -/

namespace Sys2Proof

/-- A register value or a data address: every register is 64 bits wide (R26). -/
abbrev Word := BitVec 64

/-- One byte of memory: size `B` is one byte of 8 bits (R41). -/
abbrev Byte := BitVec 8

/-- The eight bytes `b0 ... b7` of one 64-bit unit of the program text, in increasing address (R93). -/
structure Slot where
  b0 : Byte
  b1 : Byte
  b2 : Byte
  b3 : Byte
  b4 : Byte
  b5 : Byte
  b6 : Byte
  b7 : Byte
deriving DecidableEq, Repr

/-- A slot whose eight bytes are all zero: never an instruction, only a second half (R120 (e)). -/
def Slot.zero : Slot := ⟨0, 0, 0, 0, 0, 0, 0, 0⟩

end Sys2Proof
end

