-- ==== Sys2Proof/Config.lean ====
section
/-! DEFINITION. Config.lean: what an implementation fixes before a run (R10, R443), held as plain data, and the one
free value of the model, the content of a memory byte that nothing has written (R442).

The machine leaves these open. They are therefore data of the state that no step changes, so that a statement over all
states is a statement over all platforms. -/

namespace Sys2Proof

/-- The byte order of the host, `HOST_ENDIAN` (R9, R55). -/
inductive Endian where
  | little
  | big
deriving DecidableEq, Repr

/-- The conformance groups (R3). -/
inductive Group where
  | base32
  | base64
  | atomic32
  | atomic64
  | divmul32
  | divmul64
  | packet
deriving DecidableEq, Repr

/-- The kind of a data access, as the admission predicate sees it (R62). -/
inductive AccessKind where
  | read
  | write
  | atomic
deriving DecidableEq, Repr

/-- One clause of the platform's admission predicate `MemAdmit` (R62): every byte range inside a region, or exactly
one range. The predicate is the union of its clauses; the stacks of live frames are admitted beside them. -/
inductive AdmitRule where
  | region (base size : Nat) (kind : AccessKind)
  | exactly (addr n : Nat) (kind : AccessKind)
deriving DecidableEq, Repr

/-- The five argument registers `R1` to `R5` as a helper receives them: each a value or "no value" (R246). -/
structure Args where
  a1 : Option Word
  a2 : Option Word
  a3 : Option Word
  a4 : Option Word
  a5 : Option Word
deriving DecidableEq, Repr

/-- Which platform function a `CALL` names: a helper by static ID (`src_reg` = 0) or a function by BTF ID with the
instruction's `offset` (`src_reg` = 2) (R246, R298). -/
inductive HelperRef where
  | static (id : Int)
  | btf (id : Int) (offset : Int)
deriving DecidableEq, Repr

/-- What a platform function does: it returns a 64-bit result and changes some bytes of memory, or it ends the run in
a fault (R246, R413). -/
inductive HelperReply where
  | returns (r0 : Word) (writes : List (Word × Byte))
  | fails
deriving DecidableEq, Repr

/-- One row of the partial functions `Helper` and `KFunc` (R246). It answers the calls of its function with its `args`
(an absent one stands for all) in the memories whose bytes at the addresses of `mem` are the given ones. A row may so
depend on every byte of memory or on none; every partial function is a list of such rows (notes/assumptions/6.md). -/
structure HelperRow where
  ref   : HelperRef
  args  : Option Args
  mem   : List (Word × Byte)
  reply : HelperReply
deriving DecidableEq, Repr

/-- The parameters of the step relation (R10): fixed before the run, never changed by it (R443). Partial functions are
held as the list of their pairs; where no pair stands, the function is undefined. -/
structure Platform where
  endian       : Endian
  groups       : List Group
  entryCtx     : Word
  stackSize    : Nat
  frameTops    : List Word
  maxCallDepth : Nat
  admission    : List AdmitRule
  alignStrict  : Bool
  helpers      : List HelperRow
  mapByFd      : List (Int × Word)
  mapByIdx     : List (Int × Word)
  mapVal       : List (Word × Word)
  varAddr      : List (Int × Word)
  codeAddr     : List ((Int × Int) × Word)
  shared       : List (Nat × Nat)
deriving DecidableEq, Repr

/-- The platform of the spec's own examples: the defaults of R10's table, and for the values the table leaves to each
example those of 95_test_vectors.md (`ENTRY_CTX` = 0x1000, `FRAME_TOP(k)` = 0x8000 - 0x200 k, the stacks the only
admitted memory, no helpers, no maps). `HOST_ENDIAN` has no default in the spec; DESIGN CHOICE little
(notes/assumptions/2.md, notes/assumptions/3.md). -/
def Platform.default : Platform where
  endian       := .little
  groups       := [.base32, .base64, .atomic32, .atomic64, .divmul32, .divmul64]
  entryCtx     := 0x1000
  stackSize    := 512
  frameTops    := [0x8000, 0x7E00, 0x7C00, 0x7A00, 0x7800, 0x7600, 0x7400, 0x7200]
  maxCallDepth := 8
  admission    := []
  alignStrict  := true
  helpers      := []
  mapByFd      := []
  mapByIdx     := []
  mapVal       := []
  varAddr      := []
  codeAddr     := []
  shared       := []

/-- FREE VALUE. `Config.drawByte d a` is the byte at address `a` that nothing has written, in the draw numbered `d`
(draw 0 is what stands in memory before the run; every program-local call makes a new draw for its frame's stack). The spec
calls these bytes arbitrary (R31, R442), so nothing about them can be proved (notes/assumptions/5.md). -/
opaque Config.drawByte : Nat → Nat → Byte

end Sys2Proof
end

