-- ==== Sys2Proof/Syntax.lean ====
section
/-! DEFINITION. Syntax.lean: the register names and the instructions, one constructor for each of the 170 rows of
spec/opcode_table.json, with the operand fields the row leaves free (R125).

`imm`, `nextImm` and `offset` are the raw fields of 32, 32 and 16 bits; how each is read (signed, unsigned, sign
extended) is the business of the instruction's meaning (R107, R108). -/

namespace Sys2Proof

/-- The eleven general registers (R26). The numbers 11 to 15 of a 4-bit field name no register and do not decode (R119). -/
inductive Reg where
  | r0 | r1 | r2 | r3 | r4 | r5 | r6 | r7 | r8 | r9 | r10
deriving DecidableEq, Repr

/-- Why a slot is no instruction: the `Illegal(reason)` of R118. That a slot which meets no row is reported before the
register checks, and these before the group, is R118's order. The names of the reasons, and which one is reported where
several apply within one of these three checks, the spec leaves open: DESIGN CHOICE, safe (notes/assumptions/17.md). -/
inductive Illegal where
  /-- The opcode byte is in no row of the table (R120 (a) to (c), (e)). -/
  | unknownOpcode
  /-- A field that chooses the row (`offset`, `imm` or `src_reg`) holds a value no row lists (R114, R120). -/
  | badSelector
  /-- A field the row does not use is not zero (R109, R120). -/
  | unusedField
  /-- A register field holds 11 to 15 (R119). -/
  | badRegister
  /-- A register field that the row writes holds 10 (R28, R119). -/
  | writesR10
  /-- A wide instruction starts in the last slot of the program (R96, R120 (c)). -/
  | missingSecondSlot
  /-- The low 32 bits of a wide instruction's second slot are not all zero (R96, R120 (c)). -/
  | badSecondSlot
  /-- The instruction's conformance group is not supported (R121). -/
  | unsupportedGroup
  /-- Fewer bytes than a slot are left (decoding a list of bytes only; a program has whole slots). -/
  | truncated
deriving DecidableEq, Repr

/-- The instructions (spec/opcode_table.json). -/
inductive Instr where
  -- Arithmetic (40_alu.md, 40_alu_part2.md)
  /-- `add32_imm` (R140) -/
  | add32Imm (dst : Reg) (imm : BitVec 32)
  /-- `add32_reg` (R141) -/
  | add32Reg (dst : Reg) (src : Reg)
  /-- `add64_imm` (R142) -/
  | add64Imm (dst : Reg) (imm : BitVec 32)
  /-- `add64_reg` (R143) -/
  | add64Reg (dst : Reg) (src : Reg)
  /-- `sub32_imm` (R144) -/
  | sub32Imm (dst : Reg) (imm : BitVec 32)
  /-- `sub32_reg` (R145) -/
  | sub32Reg (dst : Reg) (src : Reg)
  /-- `sub64_imm` (R146) -/
  | sub64Imm (dst : Reg) (imm : BitVec 32)
  /-- `sub64_reg` (R147) -/
  | sub64Reg (dst : Reg) (src : Reg)
  /-- `mul32_imm` (R148) -/
  | mul32Imm (dst : Reg) (imm : BitVec 32)
  /-- `mul32_reg` (R149) -/
  | mul32Reg (dst : Reg) (src : Reg)
  /-- `mul64_imm` (R150) -/
  | mul64Imm (dst : Reg) (imm : BitVec 32)
  /-- `mul64_reg` (R151) -/
  | mul64Reg (dst : Reg) (src : Reg)
  /-- `div32_imm` (R152) -/
  | div32Imm (dst : Reg) (imm : BitVec 32)
  /-- `div32_reg` (R153) -/
  | div32Reg (dst : Reg) (src : Reg)
  /-- `div64_imm` (R154) -/
  | div64Imm (dst : Reg) (imm : BitVec 32)
  /-- `div64_reg` (R155) -/
  | div64Reg (dst : Reg) (src : Reg)
  /-- `sdiv32_imm` (R156) -/
  | sdiv32Imm (dst : Reg) (imm : BitVec 32)
  /-- `sdiv32_reg` (R157) -/
  | sdiv32Reg (dst : Reg) (src : Reg)
  /-- `sdiv64_imm` (R158) -/
  | sdiv64Imm (dst : Reg) (imm : BitVec 32)
  /-- `sdiv64_reg` (R159) -/
  | sdiv64Reg (dst : Reg) (src : Reg)
  /-- `or32_imm` (R160) -/
  | or32Imm (dst : Reg) (imm : BitVec 32)
  /-- `or32_reg` (R161) -/
  | or32Reg (dst : Reg) (src : Reg)
  /-- `or64_imm` (R162) -/
  | or64Imm (dst : Reg) (imm : BitVec 32)
  /-- `or64_reg` (R163) -/
  | or64Reg (dst : Reg) (src : Reg)
  /-- `and32_imm` (R164) -/
  | and32Imm (dst : Reg) (imm : BitVec 32)
  /-- `and32_reg` (R165) -/
  | and32Reg (dst : Reg) (src : Reg)
  /-- `and64_imm` (R166) -/
  | and64Imm (dst : Reg) (imm : BitVec 32)
  /-- `and64_reg` (R167) -/
  | and64Reg (dst : Reg) (src : Reg)
  /-- `lsh32_imm` (R168) -/
  | lsh32Imm (dst : Reg) (imm : BitVec 32)
  /-- `lsh32_reg` (R169) -/
  | lsh32Reg (dst : Reg) (src : Reg)
  /-- `lsh64_imm` (R170) -/
  | lsh64Imm (dst : Reg) (imm : BitVec 32)
  /-- `lsh64_reg` (R171) -/
  | lsh64Reg (dst : Reg) (src : Reg)
  /-- `rsh32_imm` (R172) -/
  | rsh32Imm (dst : Reg) (imm : BitVec 32)
  /-- `rsh32_reg` (R173) -/
  | rsh32Reg (dst : Reg) (src : Reg)
  /-- `rsh64_imm` (R174) -/
  | rsh64Imm (dst : Reg) (imm : BitVec 32)
  /-- `rsh64_reg` (R175) -/
  | rsh64Reg (dst : Reg) (src : Reg)
  /-- `mod32_imm` (R176) -/
  | mod32Imm (dst : Reg) (imm : BitVec 32)
  /-- `mod32_reg` (R177) -/
  | mod32Reg (dst : Reg) (src : Reg)
  /-- `mod64_imm` (R178) -/
  | mod64Imm (dst : Reg) (imm : BitVec 32)
  /-- `mod64_reg` (R179) -/
  | mod64Reg (dst : Reg) (src : Reg)
  /-- `smod32_imm` (R180) -/
  | smod32Imm (dst : Reg) (imm : BitVec 32)
  /-- `smod32_reg` (R181) -/
  | smod32Reg (dst : Reg) (src : Reg)
  /-- `smod64_imm` (R182) -/
  | smod64Imm (dst : Reg) (imm : BitVec 32)
  /-- `smod64_reg` (R183) -/
  | smod64Reg (dst : Reg) (src : Reg)
  /-- `xor32_imm` (R184) -/
  | xor32Imm (dst : Reg) (imm : BitVec 32)
  /-- `xor32_reg` (R185) -/
  | xor32Reg (dst : Reg) (src : Reg)
  /-- `xor64_imm` (R186) -/
  | xor64Imm (dst : Reg) (imm : BitVec 32)
  /-- `xor64_reg` (R187) -/
  | xor64Reg (dst : Reg) (src : Reg)
  /-- `mov32_imm` (R188) -/
  | mov32Imm (dst : Reg) (imm : BitVec 32)
  /-- `mov32_reg` (R189) -/
  | mov32Reg (dst : Reg) (src : Reg)
  /-- `mov64_imm` (R190) -/
  | mov64Imm (dst : Reg) (imm : BitVec 32)
  /-- `mov64_reg` (R191) -/
  | mov64Reg (dst : Reg) (src : Reg)
  /-- `arsh32_imm` (R192) -/
  | arsh32Imm (dst : Reg) (imm : BitVec 32)
  /-- `arsh32_reg` (R193) -/
  | arsh32Reg (dst : Reg) (src : Reg)
  /-- `arsh64_imm` (R194) -/
  | arsh64Imm (dst : Reg) (imm : BitVec 32)
  /-- `arsh64_reg` (R195) -/
  | arsh64Reg (dst : Reg) (src : Reg)
  /-- `neg32` (R196) -/
  | neg32 (dst : Reg)
  /-- `neg64` (R197) -/
  | neg64 (dst : Reg)
  /-- `movsx32_8` (R198) -/
  | movsx32From8 (dst : Reg) (src : Reg)
  /-- `movsx32_16` (R199) -/
  | movsx32From16 (dst : Reg) (src : Reg)
  /-- `movsx64_8` (R200) -/
  | movsx64From8 (dst : Reg) (src : Reg)
  /-- `movsx64_16` (R201) -/
  | movsx64From16 (dst : Reg) (src : Reg)
  /-- `movsx64_32` (R202) -/
  | movsx64From32 (dst : Reg) (src : Reg)
  -- Byte swaps (41_byteswap.md)
  /-- `le16` (R215) -/
  | le16 (dst : Reg)
  /-- `le32` (R216) -/
  | le32 (dst : Reg)
  /-- `le64` (R217) -/
  | le64 (dst : Reg)
  /-- `be16` (R218) -/
  | be16 (dst : Reg)
  /-- `be32` (R219) -/
  | be32 (dst : Reg)
  /-- `be64` (R220) -/
  | be64 (dst : Reg)
  /-- `bswap16` (R221) -/
  | bswap16 (dst : Reg)
  /-- `bswap32` (R222) -/
  | bswap32 (dst : Reg)
  /-- `bswap64` (R223) -/
  | bswap64 (dst : Reg)
  -- Jumps (42_jump.md, 42_jump_conditional.md)
  /-- `ja` (R250) -/
  | ja (offset : BitVec 16)
  /-- `ja32` (R251) -/
  | ja32 (imm : BitVec 32)
  /-- `jeq64_imm` (R252) -/
  | jeq64Imm (dst : Reg) (imm : BitVec 32) (offset : BitVec 16)
  /-- `jeq64_reg` (R253) -/
  | jeq64Reg (dst : Reg) (src : Reg) (offset : BitVec 16)
  /-- `jeq32_imm` (R254) -/
  | jeq32Imm (dst : Reg) (imm : BitVec 32) (offset : BitVec 16)
  /-- `jeq32_reg` (R255) -/
  | jeq32Reg (dst : Reg) (src : Reg) (offset : BitVec 16)
  /-- `jgt64_imm` (R256) -/
  | jgt64Imm (dst : Reg) (imm : BitVec 32) (offset : BitVec 16)
  /-- `jgt64_reg` (R257) -/
  | jgt64Reg (dst : Reg) (src : Reg) (offset : BitVec 16)
  /-- `jgt32_imm` (R258) -/
  | jgt32Imm (dst : Reg) (imm : BitVec 32) (offset : BitVec 16)
  /-- `jgt32_reg` (R259) -/
  | jgt32Reg (dst : Reg) (src : Reg) (offset : BitVec 16)
  /-- `jge64_imm` (R260) -/
  | jge64Imm (dst : Reg) (imm : BitVec 32) (offset : BitVec 16)
  /-- `jge64_reg` (R261) -/
  | jge64Reg (dst : Reg) (src : Reg) (offset : BitVec 16)
  /-- `jge32_imm` (R262) -/
  | jge32Imm (dst : Reg) (imm : BitVec 32) (offset : BitVec 16)
  /-- `jge32_reg` (R263) -/
  | jge32Reg (dst : Reg) (src : Reg) (offset : BitVec 16)
  /-- `jset64_imm` (R264) -/
  | jset64Imm (dst : Reg) (imm : BitVec 32) (offset : BitVec 16)
  /-- `jset64_reg` (R265) -/
  | jset64Reg (dst : Reg) (src : Reg) (offset : BitVec 16)
  /-- `jset32_imm` (R266) -/
  | jset32Imm (dst : Reg) (imm : BitVec 32) (offset : BitVec 16)
  /-- `jset32_reg` (R267) -/
  | jset32Reg (dst : Reg) (src : Reg) (offset : BitVec 16)
  /-- `jne64_imm` (R268) -/
  | jne64Imm (dst : Reg) (imm : BitVec 32) (offset : BitVec 16)
  /-- `jne64_reg` (R269) -/
  | jne64Reg (dst : Reg) (src : Reg) (offset : BitVec 16)
  /-- `jne32_imm` (R270) -/
  | jne32Imm (dst : Reg) (imm : BitVec 32) (offset : BitVec 16)
  /-- `jne32_reg` (R271) -/
  | jne32Reg (dst : Reg) (src : Reg) (offset : BitVec 16)
  /-- `jsgt64_imm` (R272) -/
  | jsgt64Imm (dst : Reg) (imm : BitVec 32) (offset : BitVec 16)
  /-- `jsgt64_reg` (R273) -/
  | jsgt64Reg (dst : Reg) (src : Reg) (offset : BitVec 16)
  /-- `jsgt32_imm` (R274) -/
  | jsgt32Imm (dst : Reg) (imm : BitVec 32) (offset : BitVec 16)
  /-- `jsgt32_reg` (R275) -/
  | jsgt32Reg (dst : Reg) (src : Reg) (offset : BitVec 16)
  /-- `jsge64_imm` (R276) -/
  | jsge64Imm (dst : Reg) (imm : BitVec 32) (offset : BitVec 16)
  /-- `jsge64_reg` (R277) -/
  | jsge64Reg (dst : Reg) (src : Reg) (offset : BitVec 16)
  /-- `jsge32_imm` (R278) -/
  | jsge32Imm (dst : Reg) (imm : BitVec 32) (offset : BitVec 16)
  /-- `jsge32_reg` (R279) -/
  | jsge32Reg (dst : Reg) (src : Reg) (offset : BitVec 16)
  /-- `jlt64_imm` (R280) -/
  | jlt64Imm (dst : Reg) (imm : BitVec 32) (offset : BitVec 16)
  /-- `jlt64_reg` (R281) -/
  | jlt64Reg (dst : Reg) (src : Reg) (offset : BitVec 16)
  /-- `jlt32_imm` (R282) -/
  | jlt32Imm (dst : Reg) (imm : BitVec 32) (offset : BitVec 16)
  /-- `jlt32_reg` (R283) -/
  | jlt32Reg (dst : Reg) (src : Reg) (offset : BitVec 16)
  /-- `jle64_imm` (R284) -/
  | jle64Imm (dst : Reg) (imm : BitVec 32) (offset : BitVec 16)
  /-- `jle64_reg` (R285) -/
  | jle64Reg (dst : Reg) (src : Reg) (offset : BitVec 16)
  /-- `jle32_imm` (R286) -/
  | jle32Imm (dst : Reg) (imm : BitVec 32) (offset : BitVec 16)
  /-- `jle32_reg` (R287) -/
  | jle32Reg (dst : Reg) (src : Reg) (offset : BitVec 16)
  /-- `jslt64_imm` (R288) -/
  | jslt64Imm (dst : Reg) (imm : BitVec 32) (offset : BitVec 16)
  /-- `jslt64_reg` (R289) -/
  | jslt64Reg (dst : Reg) (src : Reg) (offset : BitVec 16)
  /-- `jslt32_imm` (R290) -/
  | jslt32Imm (dst : Reg) (imm : BitVec 32) (offset : BitVec 16)
  /-- `jslt32_reg` (R291) -/
  | jslt32Reg (dst : Reg) (src : Reg) (offset : BitVec 16)
  /-- `jsle64_imm` (R292) -/
  | jsle64Imm (dst : Reg) (imm : BitVec 32) (offset : BitVec 16)
  /-- `jsle64_reg` (R293) -/
  | jsle64Reg (dst : Reg) (src : Reg) (offset : BitVec 16)
  /-- `jsle32_imm` (R294) -/
  | jsle32Imm (dst : Reg) (imm : BitVec 32) (offset : BitVec 16)
  /-- `jsle32_reg` (R295) -/
  | jsle32Reg (dst : Reg) (src : Reg) (offset : BitVec 16)
  -- Calls and exit (42_jump.md)
  /-- `call_helper` (R296) -/
  | callHelper (imm : BitVec 32)
  /-- `call_local` (R297) -/
  | callLocal (imm : BitVec 32)
  /-- `call_btf` (R298) -/
  | callBtf (offset : BitVec 16) (imm : BitVec 32)
  /-- `exit` (R299) -/
  | exit
  -- Loads and stores (43_load_store.md)
  /-- `ldxw` (R310) -/
  | ldxw (dst : Reg) (src : Reg) (offset : BitVec 16)
  /-- `ldxh` (R311) -/
  | ldxh (dst : Reg) (src : Reg) (offset : BitVec 16)
  /-- `ldxb` (R312) -/
  | ldxb (dst : Reg) (src : Reg) (offset : BitVec 16)
  /-- `ldxdw` (R313) -/
  | ldxdw (dst : Reg) (src : Reg) (offset : BitVec 16)
  /-- `ldxsw` (R314) -/
  | ldxsw (dst : Reg) (src : Reg) (offset : BitVec 16)
  /-- `ldxsh` (R315) -/
  | ldxsh (dst : Reg) (src : Reg) (offset : BitVec 16)
  /-- `ldxsb` (R316) -/
  | ldxsb (dst : Reg) (src : Reg) (offset : BitVec 16)
  /-- `stw` (R317) -/
  | stw (dst : Reg) (offset : BitVec 16) (imm : BitVec 32)
  /-- `sth` (R318) -/
  | sth (dst : Reg) (offset : BitVec 16) (imm : BitVec 32)
  /-- `stb` (R319) -/
  | stb (dst : Reg) (offset : BitVec 16) (imm : BitVec 32)
  /-- `stdw` (R320) -/
  | stdw (dst : Reg) (offset : BitVec 16) (imm : BitVec 32)
  /-- `stxw` (R321) -/
  | stxw (dst : Reg) (src : Reg) (offset : BitVec 16)
  /-- `stxh` (R322) -/
  | stxh (dst : Reg) (src : Reg) (offset : BitVec 16)
  /-- `stxb` (R323) -/
  | stxb (dst : Reg) (src : Reg) (offset : BitVec 16)
  /-- `stxdw` (R324) -/
  | stxdw (dst : Reg) (src : Reg) (offset : BitVec 16)
  -- Atomic operations (44_atomic.md)
  /-- `atomic_add32` (R340) -/
  | atomicAdd32 (dst : Reg) (src : Reg) (offset : BitVec 16)
  /-- `atomic_fetch_add32` (R341) -/
  | atomicFetchAdd32 (dst : Reg) (src : Reg) (offset : BitVec 16)
  /-- `atomic_or32` (R342) -/
  | atomicOr32 (dst : Reg) (src : Reg) (offset : BitVec 16)
  /-- `atomic_fetch_or32` (R343) -/
  | atomicFetchOr32 (dst : Reg) (src : Reg) (offset : BitVec 16)
  /-- `atomic_and32` (R344) -/
  | atomicAnd32 (dst : Reg) (src : Reg) (offset : BitVec 16)
  /-- `atomic_fetch_and32` (R345) -/
  | atomicFetchAnd32 (dst : Reg) (src : Reg) (offset : BitVec 16)
  /-- `atomic_xor32` (R346) -/
  | atomicXor32 (dst : Reg) (src : Reg) (offset : BitVec 16)
  /-- `atomic_fetch_xor32` (R347) -/
  | atomicFetchXor32 (dst : Reg) (src : Reg) (offset : BitVec 16)
  /-- `atomic_add64` (R348) -/
  | atomicAdd64 (dst : Reg) (src : Reg) (offset : BitVec 16)
  /-- `atomic_fetch_add64` (R349) -/
  | atomicFetchAdd64 (dst : Reg) (src : Reg) (offset : BitVec 16)
  /-- `atomic_or64` (R350) -/
  | atomicOr64 (dst : Reg) (src : Reg) (offset : BitVec 16)
  /-- `atomic_fetch_or64` (R351) -/
  | atomicFetchOr64 (dst : Reg) (src : Reg) (offset : BitVec 16)
  /-- `atomic_and64` (R352) -/
  | atomicAnd64 (dst : Reg) (src : Reg) (offset : BitVec 16)
  /-- `atomic_fetch_and64` (R353) -/
  | atomicFetchAnd64 (dst : Reg) (src : Reg) (offset : BitVec 16)
  /-- `atomic_xor64` (R354) -/
  | atomicXor64 (dst : Reg) (src : Reg) (offset : BitVec 16)
  /-- `atomic_fetch_xor64` (R355) -/
  | atomicFetchXor64 (dst : Reg) (src : Reg) (offset : BitVec 16)
  /-- `atomic_xchg32` (R356) -/
  | atomicXchg32 (dst : Reg) (src : Reg) (offset : BitVec 16)
  /-- `atomic_xchg64` (R357) -/
  | atomicXchg64 (dst : Reg) (src : Reg) (offset : BitVec 16)
  /-- `atomic_cmpxchg32` (R358) -/
  | atomicCmpxchg32 (dst : Reg) (src : Reg) (offset : BitVec 16)
  /-- `atomic_cmpxchg64` (R359) -/
  | atomicCmpxchg64 (dst : Reg) (src : Reg) (offset : BitVec 16)
  -- 64-bit immediates (45_imm64.md)
  /-- `lddw` (R365) -/
  | lddw (dst : Reg) (imm : BitVec 32) (nextImm : BitVec 32)
  /-- `ld_map_fd` (R366) -/
  | ldMapFd (dst : Reg) (imm : BitVec 32)
  /-- `ld_map_fd_val` (R367) -/
  | ldMapFdVal (dst : Reg) (imm : BitVec 32) (nextImm : BitVec 32)
  /-- `ld_var_addr` (R368) -/
  | ldVarAddr (dst : Reg) (imm : BitVec 32)
  /-- `ld_code_addr` (R369) -/
  | ldCodeAddr (dst : Reg) (imm : BitVec 32)
  /-- `ld_map_idx` (R370) -/
  | ldMapIdx (dst : Reg) (imm : BitVec 32)
  /-- `ld_map_idx_val` (R371) -/
  | ldMapIdxVal (dst : Reg) (imm : BitVec 32) (nextImm : BitVec 32)
  -- Legacy packet access (46_legacy_packet.md)
  /-- `ldabsw` (R379) -/
  | ldabsw (imm : BitVec 32)
  /-- `ldabsh` (R380) -/
  | ldabsh (imm : BitVec 32)
  /-- `ldabsb` (R381) -/
  | ldabsb (imm : BitVec 32)
  /-- `ldindw` (R382) -/
  | ldindw (src : Reg) (imm : BitVec 32)
  /-- `ldindh` (R383) -/
  | ldindh (src : Reg) (imm : BitVec 32)
  /-- `ldindb` (R384) -/
  | ldindb (src : Reg) (imm : BitVec 32)
deriving DecidableEq, Repr

end Sys2Proof
end

