-- ==== Sys2Proof/Machine/State.lean ====
section
/-! DEFINITION. Machine/State.lean: everything the spec gives the machine (R25), as plain data, the faults and the
refusals, and the state after reset. -/

namespace Sys2Proof.Machine

/-- The faults of R403's table, each with the values it records. A fault writes nothing and ends the run (R401). Each is
the spec's own, so each is as safe as the spec: an implementation that goes on where the spec faults does something the
spec does not describe, and the model proves nothing about it (safe). -/
inductive Fault where
  /-- `BadJumpTarget(t)`: raised by the fetch when slot `t` does not start an instruction of the program (R405). Safe. -/
  | badJumpTarget (t : Int)
  /-- `IllegalInstruction(pc)`: raised by decode, with the reason (R118, R404; which reason, notes/assumptions/17.md). Safe. -/
  | illegalInstruction (pc : Int) (why : Illegal)
  /-- `UninitRegister(i)`: raised by reading a register that holds no value (R30, R409). Safe. -/
  | uninitRegister (r : Reg)
  /-- `CallDepthExceeded`: raised by `call_local` (R245, R410). Safe. -/
  | callDepthExceeded
  /-- `UnknownHelper(id)`: raised by `call_helper` and `call_btf` when the platform defines no such function (R412). Safe. -/
  | unknownHelper (id : Int)
  /-- `PlatformFault`: raised by a 64-bit immediate whose platform function is undefined at its argument, and by a
  helper that ends the run (R413). Safe. -/
  | platformFault
  /-- `MemFault(a, n, kind)`: raised by a load, store or atomic that the platform has not admitted (R406). Safe. -/
  | memFault (a : Word) (n : Nat) (kind : AccessKind)
  /-- `Misaligned(a, n)`: raised by a load or store when `ALIGN_STRICT`, by an atomic always (R407). Safe. -/
  | misaligned (a : Word) (n : Nat)
deriving DecidableEq, Repr

/-- Where the model gives no meaning. -/
inductive Refusal where
  /-- Raised by an arm of `exec` that has no meaning yet; no arm of this model does. Safe. -/
  | notModelled (mnemonic : String)
  /-- `Unmodelled(pc)`: raised by the six legacy packet loads, to which the spec gives no semantics: "a refusal, not a
  behaviour of the hardware" (R378, R411). Safe. -/
  | unmodelled (pc : Int)
  /-- Raised by `step` in a state whose run has ended: a step exists only in status `Running` (R43). Safe. -/
  | runEnded
deriving DecidableEq, Repr

/-- The run status (R43). -/
inductive RunStatus where
  | running
  | final (v : Word)
  | fault (f : Fault)
deriving DecidableEq, Repr

/-- The general registers; `none` is the spec's "no value" (R25(a), R30). -/
structure Regs where
  r0  : Option Word
  r1  : Option Word
  r2  : Option Word
  r3  : Option Word
  r4  : Option Word
  r5  : Option Word
  r6  : Option Word
  r7  : Option Word
  r8  : Option Word
  r9  : Option Word
  r10 : Option Word
deriving DecidableEq, Repr

/-- A record of the call stack: the return slot and the caller's `R6` to `R9` (R36). -/
structure Frame where
  ret  : Int
  r6   : Option Word
  r7   : Option Word
  r8   : Option Word
  r9   : Option Word
deriving DecidableEq, Repr

/-- The stored bytes of data memory, addresses strictly rising. An address that is not listed has had nothing stored
to it, and reads as a free value (R442, notes/assumptions/5.md). -/
abbrev Memory := List Host.Cell

/-- The state of one running program (R25), with the parameters of its step relation (R10, R443) beside it. -/
structure State where
  /-- The registers (R25(a)). -/
  regs     : Regs
  /-- The program counter, a slot number (R25(b), R33). -/
  pc       : Int
  /-- The call stack, the most recent frame first (R25(c), R36). -/
  frames   : List Frame
  /-- The data memory (R25(d), R41). -/
  mem      : Memory
  /-- The run status (R25(e), R43). -/
  status   : RunStatus
  /-- The parameters; no step changes them (R443). -/
  plat     : Platform
  /-- The program text `PROG`; no step changes it (R32, R72). -/
  prog     : List Slot
  /-- The writes of other agents still to come, one turn before each step (`Env`, R66). -/
  env      : List (List (Word × Byte))
  /-- The model's own: the stacks that a call has drawn afresh, each by its top with the number of its last draw, the
  latest first (notes/assumptions/5.md). -/
  draws    : List (Word × Nat)
  /-- The model's own: the next draw nobody has used (notes/assumptions/5.md). -/
  nextDraw : Nat
deriving DecidableEq, Repr

/-- The start state as R440 to R442 give it, for any platform, program and memory and any behaviour of the other agents
(`Env` is an open parameter, R10, R66; its form, notes/assumptions/8.md): `R1` and `R10` hold a value and the other
registers hold none. Without other agents, the premise of R66 and R449, `env` is the empty list. -/
def State.runStart (p : Platform) (prog : List Slot) (mem : Memory) (env : List (List (Word × Byte))) : State where
  regs := ⟨none, some p.entryCtx, none, none, none, none, none, none, none, none, some (p.frameTops.getD 0 0)⟩
  pc := 0
  frames := []
  mem := mem
  status := .running
  plat := p
  prog := prog
  env := env
  draws := []
  nextDraw := 1

/-- The machine right after reset: the start state of the default platform with no program loaded, nothing stored and no
other agent (R10's default of `Env`, notes/assumptions/3.md), except that `R0` and `R2` to `R9`, which hold no value in
R441, hold 0 (DESIGN CHOICE, unsafe, notes/assumptions/1.md). -/
def State.reset : State :=
  { State.runStart Platform.default [] [] [] with
    regs := ⟨some 0, some 0x1000, some 0, some 0, some 0, some 0, some 0, some 0, some 0, some 0, some 0x8000⟩ }

end Sys2Proof.Machine
end

