-- ==== Sys2Proof/Machine/Ops.lean ====
section
/-! DEFINITION. Machine/Ops.lean: the named operations over registers, memory and the call stack, and the one operation
that raises a fault. The meanings of the family files are written over these (R17's primitives). -/

namespace Sys2Proof.Machine

/-- What a step answers. -/
abbrev Out := Host.Outcome State Fault Refusal

/-! ## Faults -/

/-- Taking an exception: `raise F(info)` (R401). The step writes nothing, saves nothing, switches no mode and goes to no
handler (R418); the run ends and the fault is its whole record. Beside it there is no return from a trap: nothing
runs after a fault (R420). -/
def raise (f : Fault) : Out := .fault f

/-- The state an observer sees after a fault: frozen as it was, with status `Fault(f)` (R401). -/
def State.frozen (s : State) (f : Fault) : State := { s with status := .fault f }

/-! ## Registers -/

/-- The content of a register, a value or "no value" (R25(a)). -/
def Regs.get (g : Regs) : Reg → Option Word
  | .r0 => g.r0 | .r1 => g.r1 | .r2 => g.r2 | .r3 => g.r3 | .r4 => g.r4 | .r5 => g.r5
  | .r6 => g.r6 | .r7 => g.r7 | .r8 => g.r8 | .r9 => g.r9 | .r10 => g.r10

/-- Replace the content of a register. -/
def Regs.set (g : Regs) (r : Reg) (v : Option Word) : Regs :=
  match r with
  | .r0 => { g with r0 := v } | .r1 => { g with r1 := v } | .r2 => { g with r2 := v } | .r3 => { g with r3 := v }
  | .r4 => { g with r4 := v } | .r5 => { g with r5 := v } | .r6 => { g with r6 := v } | .r7 => { g with r7 := v }
  | .r8 => { g with r8 := v } | .r9 => { g with r9 := v } | .r10 => { g with r10 := v }

/-- `R1` to `R5` hold no value (R247, R249). -/
def Regs.dropArgs (g : Regs) : Regs := { g with r1 := none, r2 := none, r3 := none, r4 := none, r5 := none }

/-- The content of a register of the state. -/
def State.reg (s : State) (r : Reg) : Option Word := s.regs.get r

/-- `x[i]`: the value of a register; raises `UninitRegister(i)` if it holds none (R17, R30, R409). -/
def readReg (s : State) (r : Reg) (k : Word → Out) : Out :=
  match s.reg r with
  | some v => k v
  | none => raise (.uninitRegister r)

/-- `x[i] <- v` (R17). -/
def State.setReg (s : State) (r : Reg) (v : Word) : State := { s with regs := s.regs.set r (some v) }

/-! ## The program counter -/

/-- `pc <- pc + n` (R34(a), (b)). -/
def State.advance (s : State) (n : Int) : State := { s with pc := s.pc + n }

/-- `pc <- pc + 1 + offset`, in the integers, with no wrap-around (R34(c), (d), R232, D31). -/
def State.jump (s : State) (offset : Int) : State := { s with pc := s.pc + 1 + offset }

/-! ## Frames and their stacks -/

/-- `FRAME_TOP(k)`, of the platform's table (R31). A depth the platform has not given has top 0, below which no stack
fits (notes/assumptions/7.md). -/
def topOf (tops : List Word) (k : Nat) : Word := tops.getD k 0

/-- `FRAME_TOP(k)` of the state's platform (R31). -/
def State.frameTop (s : State) (k : Nat) : Word := topOf s.plat.frameTops k

/-- The range of `n` bytes at `a` lies in the stack below `top` (R31). -/
def State.inStack (s : State) (top : Word) (a n : Nat) : Bool :=
  decide (top.toNat ≤ a + s.plat.stackSize) && decide (a + n ≤ top.toNat)

/-- The tops of the live frames' stacks, of depth 0 to the present one (R31, R62). -/
def State.liveTops (s : State) : List Word := (List.range (s.frames.length + 1)).map s.frameTop

/-- The range lies inside the stack of one live frame (R62). -/
def State.inLiveStack (s : State) (a n : Nat) : Bool := s.liveTops.any fun t => s.inStack t a n

/-! ## Memory: stored bytes -/

/-- The form of a memory: addresses strictly rising, each one of 64 bits. -/
abbrev Memory.wf (m : Memory) : Prop :=
  m.Pairwise (fun c d => c.1 < d.1) ∧ ∀ c ∈ m, c.1 < 2 ^ 64

/-- The byte stored at an address, if one has been. -/
def Memory.get (m : Memory) (a : Nat) : Option Byte :=
  match m with
  | [] => none
  | c :: rest => if c.1 = a then some c.2 else Memory.get rest a

/-- Store one byte, keeping the addresses rising. -/
def Memory.put (m : Memory) (a : Nat) (b : Byte) : Memory :=
  match m with
  | [] => [(a, b)]
  | c :: rest =>
    if a < c.1 then (a, b) :: c :: rest
    else if c.1 = a then (a, b) :: rest
    else c :: Memory.put rest a b

/-- Store consecutive bytes from an address on. -/
def Memory.putBytes (m : Memory) (a : Nat) (bs : List Byte) : Memory :=
  match bs with
  | [] => m
  | b :: rest => Memory.putBytes (Memory.put m a b) (a + 1) rest

/-- Store bytes at given addresses, in order. -/
def Memory.putAll (m : Memory) (ws : List (Word × Byte)) : Memory :=
  match ws with
  | [] => m
  | w :: rest => Memory.putAll (Memory.put m w.1.toNat w.2) rest

/-! ## Memory: what a program reads -/

/-- The draw that an unwritten byte belongs to: the latest of a stack it lies in, else draw 0 (R31, R442). -/
def State.drawAt (s : State) (a : Nat) : Nat :=
  match s.draws.find? fun t => s.inStack t.1 a 1 with
  | some t => t.2
  | none => 0

/-- The byte at an address: what is stored, else a free value (R41, R442, notes/assumptions/5.md). -/
def State.byteAt (s : State) (a : Nat) : Byte :=
  match Memory.get s.mem a with
  | some b => b
  | none => Config.drawByte (s.drawAt a) a

/-- The `n` bytes from an address on. -/
def State.bytesAt (s : State) (a : Nat) : Nat → List Byte
  | 0 => []
  | n + 1 => s.byteAt a :: s.bytesAt (a + 1) n

/-- The low `n` bytes of a value, the least significant first. -/
def bytesLE : Nat → Word → List Byte
  | 0, _ => []
  | n + 1, v => v.setWidth 8 :: bytesLE n (v >>> 8)

/-- The value of some bytes, the least significant first. -/
def valueLE : List Byte → Word
  | [] => 0
  | b :: rest => valueLE rest <<< 8 ||| b.setWidth 64

/-- The bytes, in rising address, that hold the low `n` bytes of a value on a host (R56). -/
def dataBytes (e : Endian) (n : Nat) (v : Word) : List Byte :=
  match e with
  | .little => bytesLE n v
  | .big => (bytesLE n v).reverse

/-- The value that some bytes, in rising address, hold on a host (R56). -/
def dataValue (e : Endian) (bs : List Byte) : Word :=
  match e with
  | .little => valueLE bs
  | .big => valueLE bs.reverse

/-- The `8n`-bit value at an address, zero extended (R56). -/
def State.valueAt (s : State) (a n : Nat) : Word := dataValue s.plat.endian (s.bytesAt a n)

/-- Store the low `n` bytes of a value at an address (R56, R64). -/
def State.store (s : State) (a n : Nat) (v : Word) : State :=
  { s with mem := Memory.putBytes s.mem a (dataBytes s.plat.endian n v) }

/-! ## Memory: admission, alignment, and the three primitives -/

/-- Whether one clause of the platform's predicate admits a range (R62). -/
def admitRuleHolds (r : AdmitRule) (a n : Nat) (kind : AccessKind) : Bool :=
  match r with
  | .region base size k => decide (k = kind) && decide (base ≤ a) && decide (a + n ≤ base + size)
  | .exactly addr m k => decide (k = kind) && decide (a = addr) && decide (n = m)

/-- `MemAdmit(a, n, kind)`: never a range that passes 2^64; always one in the stack of a live frame; otherwise as the
platform says (R62). -/
def State.admits (s : State) (a : Word) (n : Nat) (kind : AccessKind) : Bool :=
  decide (a.toNat + n ≤ 2 ^ 64) &&
    (s.inLiveStack a.toNat n || s.plat.admission.any fun r => admitRuleHolds r a.toNat n kind)

/-- An access of `n` bytes at `a` is aligned (R59). -/
def aligned (a : Word) (n : Nat) : Bool := a.toNat % n == 0

/-- `MemRead(a, n)`: admission, then alignment when `ALIGN_STRICT`, then the value (R63). -/
def memRead (s : State) (a : Word) (n : Nat) (k : Word → Out) : Out :=
  if s.admits a n .read then
    if s.plat.alignStrict && !aligned a n then raise (.misaligned a n) else k (s.valueAt a.toNat n)
  else raise (.memFault a n .read)

/-- `MemWrite(a, n, v)`: admission, then alignment when `ALIGN_STRICT`, then the store (R64). -/
def memWrite (s : State) (a : Word) (n : Nat) (v : Word) (k : State → Out) : Out :=
  if s.admits a n .write then
    if s.plat.alignStrict && !aligned a n then raise (.misaligned a n) else k (s.store a.toNat n v)
  else raise (.memFault a n .write)

/-- `AtomicRMW(a, n, f)`: admission, then alignment whatever `ALIGN_STRICT` is, then the read and the write as one event;
the old value goes on (R65). -/
def atomicRMW (s : State) (a : Word) (n : Nat) (f : Word → Word) (k : Word → State → Out) : Out :=
  if s.admits a n .atomic then
    if aligned a n then k (s.valueAt a.toNat n) (s.store a.toNat n (f (s.valueAt a.toNat n)))
    else raise (.misaligned a n)
  else raise (.memFault a n .atomic)

/-- The effective address: a base register's value plus the sign-extended offset, modulo 2^64 (R301). -/
def effAddr (base : Word) (offset : BitVec 16) : Word := base + offset.signExtend 64

/-! ## Platform functions -/

/-- `x[d] <- f(...)` of a platform function, which raises `PlatformFault` where it is undefined (R361, R413). -/
def platformValue (v : Option Word) (k : Word → Out) : Out :=
  match v with
  | some a => k a
  | none => raise .platformFault

/-- The five arguments of a call (R246). -/
def State.args (s : State) : Args := ⟨s.regs.r1, s.regs.r2, s.regs.r3, s.regs.r4, s.regs.r5⟩

/-- Whether a row of the platform's table answers a call in this state: by the function, the arguments and the bytes of
memory, written or not (R246). -/
def State.helperAnswers (s : State) (r : HelperRow) (ref : HelperRef) : Bool :=
  decide (r.ref = ref) && (decide (r.args = none) || decide (r.args = some s.args)) &&
    r.mem.all fun c => decide (s.byteAt c.1.toNat = c.2)

/-- `Helper(id, args, mem)` and `KFunc(id, offset, args, mem)`: the first row that answers (R246,
notes/assumptions/6.md). -/
def State.platformCall (s : State) (ref : HelperRef) : Option HelperReply :=
  match s.plat.helpers.find? fun r => s.helperAnswers r ref with
  | some r => some r.reply
  | none => none

/-- What a platform function that returns leaves: the result in `R0`, its memory, no value in `R1` to `R5` (R247). -/
def State.afterHelper (s : State) (v : Word) (ws : List (Word × Byte)) : State :=
  { s with regs := (s.regs.set .r0 (some v)).dropArgs, mem := Memory.putAll s.mem ws }

/-- The effect of a `CALL` of a platform function (R247). -/
def callPlatform (s : State) (ref : HelperRef) (id : Int) : Out :=
  match s.platformCall ref with
  | none => raise (.unknownHelper id)
  | some .fails => raise .platformFault
  | some (.returns v ws) => .next ((s.afterHelper v ws).advance 1)

/-! ## Program-local calls -/

/-- Entering a frame (R248): the return slot and `R6` to `R9` are saved, `R0` and `R6` to `R9` hold no value, `R10` is the
top of the new frame's stack, whose bytes are replaced by a fresh draw (R442, notes/assumptions/5.md). The jump to the
function is left to the caller. -/
def State.enterFrame (s : State) : State :=
  { s with
    regs := { s.regs with
      r0 := none, r6 := none, r7 := none, r8 := none, r9 := none, r10 := some (s.frameTop (s.frames.length + 1)) }
    frames := ⟨s.pc + 1, s.regs.r6, s.regs.r7, s.regs.r8, s.regs.r9⟩ :: s.frames
    mem := s.mem.filter fun c => !s.inStack (s.frameTop (s.frames.length + 1)) c.1 1
    draws := (s.frameTop (s.frames.length + 1), s.nextDraw) ::
      s.draws.filter fun t => decide (t.1 ≠ s.frameTop (s.frames.length + 1))
    nextDraw := s.nextDraw + 1 }

/-- `call_local`: one frame more than `MAX_CALL_DEPTH` raises `CallDepthExceeded` and pushes nothing (R245, R248, R410). -/
def callFrame (s : State) (imm : Int) : Out :=
  if s.frames.length + 2 > s.plat.maxCallDepth then raise .callDepthExceeded else .next (s.enterFrame.jump imm)

/-- Leaving a frame (R249): `R6` to `R9` as the caller had them, no value in `R1` to `R5`, `R0` kept, `R10` the top of
the caller's stack, `pc` the return slot. Memory stays as it is. -/
def State.leaveFrame (s : State) (f : Frame) (rest : List Frame) : State :=
  { s with
    regs := { s.regs.dropArgs with
      r6 := f.r6, r7 := f.r7, r8 := f.r8, r9 := f.r9, r10 := some (s.frameTop rest.length) }
    frames := rest
    pc := f.ret }

/-- The normal end of a run (R43, R249): nothing but the status changes. -/
def State.finish (s : State) (v : Word) : State := { s with status := .final v }

/-- `EXIT`: `R0` is read first; with no frame on the call stack the run ends with its value (R249). -/
def exitFrame (s : State) : Out :=
  readReg s .r0 fun v =>
    match s.frames with
    | [] => .next (s.finish v)
    | f :: rest => .next (s.leaveFrame f rest)

/-! ## Other agents -/

/-- Whether another agent may write an address: the platform shares it, and it is in no live frame's stack (R66). -/
def State.envMayWrite (s : State) (a : Nat) : Bool :=
  (s.plat.shared.any fun r => decide (r.1 ≤ a) && decide (a < r.1 + r.2)) && !s.inLiveStack a 1

/-- One turn of the other agents, between two steps (R66): the writes they may make, of the turn that is due. -/
def State.envTurn (s : State) : State :=
  match s.env with
  | [] => s
  | ws :: rest => { s with mem := Memory.putAll s.mem (ws.filter fun w => s.envMayWrite w.1.toNat), env := rest }

end Sys2Proof.Machine
end

