-- ==== Sys2Proof/Machine/Operands.lean ====
section
/-! DEFINITION. Machine/Operands.lean: the source operand of arithmetic instructions and conditional jumps, immediate or
register, at both widths (R132, R231). -/

namespace Sys2Proof.Machine

/-- The source operand: `imm` (source `K`) or a register (source `X`) (R101, R132). -/
inductive Operand where
  | imm (v : BitVec 32)
  | reg (r : Reg)
deriving DecidableEq, Repr

/-- The 64-bit source operand: the sign-extended immediate, or the register (R132, R231). -/
def operand64 (s : State) (o : Operand) (k : BitVec 64 → Out) : Out :=
  match o with
  | .imm v => k (v.signExtend 64)
  | .reg r => readReg s r k

/-- The 32-bit source operand: the immediate as it is, or the register's low half (R132, R231). -/
def operand32 (s : State) (o : Operand) (k : BitVec 32 → Out) : Out :=
  match o with
  | .imm v => k v
  | .reg r => readReg s r fun v => k (v.setWidth 32)

/-- Both operands of a 64-bit instruction, the destination register's first (R409, D33). -/
def operands64 (s : State) (dst : Reg) (o : Operand) (k : BitVec 64 → BitVec 64 → Out) : Out :=
  readReg s dst fun a => operand64 s o fun b => k a b

/-- Both operands of a 32-bit instruction, the destination register's low half first (R131, R409, D33). -/
def operands32 (s : State) (dst : Reg) (o : Operand) (k : BitVec 32 → BitVec 32 → Out) : Out :=
  readReg s dst fun a => operand32 s o fun b => k (a.setWidth 32) b

end Sys2Proof.Machine
end

