-- ==== Sys2Proof/Machine/Alu.lean ====
section
/-! DEFINITION. Machine/Alu.lean: the 63 arithmetic instructions (40_alu.md, 40_alu_part2.md). Each operation is written
once, at either width `w`, as its pseudocode says; a meaning applies it at 32 or 64 bits to an immediate or a register. -/

namespace Sys2Proof.Machine

/-! ## The operations -/

section
variable {w : Nat}

/-- `ADD`: `(a + b) mod 2^w` (R133, R140). -/
def aluAdd (a b : BitVec w) : BitVec w := a + b

/-- `SUB`: `(a - b) mod 2^w` (R133, R144). -/
def aluSub (a b : BitVec w) : BitVec w := a - b

/-- `MUL`: `(a * b) mod 2^w` (R133, R148). -/
def aluMul (a b : BitVec w) : BitVec w := a * b

/-- `DIV`: `floor(a / b)` of the unsigned readings, 0 when `b = 0` (R134, R135). -/
def aluDiv (a b : BitVec w) : BitVec w := if b = 0 then 0 else BitVec.ofNat w (a.toNat / b.toNat)

/-- `SDIV`: `trunc(sw(a) / sw(b)) mod 2^w`, 0 when `b = 0` (R134, R135). -/
def aluSdiv (a b : BitVec w) : BitVec w := if b = 0 then 0 else BitVec.ofInt w (a.toInt.tdiv b.toInt)

/-- `OR` (R160). -/
def aluOr (a b : BitVec w) : BitVec w := a ||| b

/-- `AND` (R164). -/
def aluAnd (a b : BitVec w) : BitVec w := a &&& b

/-- The count of a shift: `b & (w - 1)`, of an immediate as of a register (R136). -/
def shiftCount (b : BitVec w) : Nat := (b &&& BitVec.ofNat w (w - 1)).toNat

/-- `LSH`: `(a * 2^n) mod 2^w` (R136). -/
def aluLsh (a b : BitVec w) : BitVec w := BitVec.ofNat w (a.toNat * 2 ^ shiftCount b)

/-- `RSH`: `floor(a / 2^n)`, `a` unsigned (R136). -/
def aluRsh (a b : BitVec w) : BitVec w := BitVec.ofNat w (a.toNat / 2 ^ shiftCount b)

/-- `MOD`: `a - b * floor(a / b)` of the unsigned readings, `a` when `b = 0` (R134, R135). -/
def aluMod (a b : BitVec w) : BitVec w :=
  if b = 0 then a else BitVec.ofNat w (a.toNat - b.toNat * (a.toNat / b.toNat))

/-- `SMOD`: `(sw(a) - sw(b) * trunc(sw(a) / sw(b))) mod 2^w`, `a` when `b = 0` (R134, R135). -/
def aluSmod (a b : BitVec w) : BitVec w :=
  if b = 0 then a else BitVec.ofInt w (a.toInt - b.toInt * a.toInt.tdiv b.toInt)

/-- `XOR` (R184). -/
def aluXor (a b : BitVec w) : BitVec w := a ^^^ b

/-- `ARSH`: `floor(sw(a) / 2^n) mod 2^w` (R136). -/
def aluArsh (a b : BitVec w) : BitVec w := BitVec.ofInt w (a.toInt.fdiv (2 ^ shiftCount b))

/-- `NEG`: `(0 - a) mod 2^w` (R138). -/
def aluNeg (a : BitVec w) : BitVec w := 0 - a

end

/-! ## The forms -/

/-- The end of an arithmetic instruction: `x[d] <- r`, then `pc <- pc + 1` (R131, R139). -/
def State.result (s : State) (dst : Reg) (r : Word) : State := (s.setReg dst r).advance 1

/-- A two-operand instruction of class `ALU64` (R131, R132). -/
def alu64 (f : BitVec 64 → BitVec 64 → BitVec 64) (dst : Reg) (o : Operand) (s : State) : Out :=
  operands64 s dst o fun a b => .next (s.result dst (f a b))

/-- A two-operand instruction of class `ALU`: the result is zero extended (R131, R132). -/
def alu32 (f : BitVec 32 → BitVec 32 → BitVec 32) (dst : Reg) (o : Operand) (s : State) : Out :=
  operands32 s dst o fun a b => .next (s.result dst ((f a b).setWidth 64))

/-- A move of class `ALU64`, which does not read `dst` (R29, R190). -/
def move64 (dst : Reg) (o : Operand) (s : State) : Out :=
  operand64 s o fun b => .next (s.result dst b)

/-- A move of class `ALU`, which does not read `dst`; the result is zero extended (R29, R188). -/
def move32 (dst : Reg) (o : Operand) (s : State) : Out :=
  operand32 s o fun b => .next (s.result dst (b.setWidth 64))

/-- A move with sign extension from the low `n` bits to `w` bits, zero extended to 64 (R137). -/
def moveSx (n w : Nat) (dst src : Reg) (s : State) : Out :=
  readReg s src fun b => .next (s.result dst (((b.setWidth n).signExtend w).setWidth 64))

/-! ## The instructions -/

/-- `add32_imm`: `dst <- dst + b` at 32 bits, `b` the immediate (R140). -/
def execAdd32Imm (dst : Reg) (imm : BitVec 32) (s : State) : Out :=
  alu32 aluAdd dst (.imm imm) s

/-- `add32_reg`: `dst <- dst + b` at 32 bits, `b` a register (R141). -/
def execAdd32Reg (dst : Reg) (src : Reg) (s : State) : Out :=
  alu32 aluAdd dst (.reg src) s

/-- `add64_imm`: `dst <- dst + b` at 64 bits, `b` the immediate (R142). -/
def execAdd64Imm (dst : Reg) (imm : BitVec 32) (s : State) : Out :=
  alu64 aluAdd dst (.imm imm) s

/-- `add64_reg`: `dst <- dst + b` at 64 bits, `b` a register (R143). -/
def execAdd64Reg (dst : Reg) (src : Reg) (s : State) : Out :=
  alu64 aluAdd dst (.reg src) s

/-- `sub32_imm`: `dst <- dst - b` at 32 bits, `b` the immediate (R144). -/
def execSub32Imm (dst : Reg) (imm : BitVec 32) (s : State) : Out :=
  alu32 aluSub dst (.imm imm) s

/-- `sub32_reg`: `dst <- dst - b` at 32 bits, `b` a register (R145). -/
def execSub32Reg (dst : Reg) (src : Reg) (s : State) : Out :=
  alu32 aluSub dst (.reg src) s

/-- `sub64_imm`: `dst <- dst - b` at 64 bits, `b` the immediate (R146). -/
def execSub64Imm (dst : Reg) (imm : BitVec 32) (s : State) : Out :=
  alu64 aluSub dst (.imm imm) s

/-- `sub64_reg`: `dst <- dst - b` at 64 bits, `b` a register (R147). -/
def execSub64Reg (dst : Reg) (src : Reg) (s : State) : Out :=
  alu64 aluSub dst (.reg src) s

/-- `mul32_imm`: `dst <- dst * b` at 32 bits, `b` the immediate (R148). -/
def execMul32Imm (dst : Reg) (imm : BitVec 32) (s : State) : Out :=
  alu32 aluMul dst (.imm imm) s

/-- `mul32_reg`: `dst <- dst * b` at 32 bits, `b` a register (R149). -/
def execMul32Reg (dst : Reg) (src : Reg) (s : State) : Out :=
  alu32 aluMul dst (.reg src) s

/-- `mul64_imm`: `dst <- dst * b` at 64 bits, `b` the immediate (R150). -/
def execMul64Imm (dst : Reg) (imm : BitVec 32) (s : State) : Out :=
  alu64 aluMul dst (.imm imm) s

/-- `mul64_reg`: `dst <- dst * b` at 64 bits, `b` a register (R151). -/
def execMul64Reg (dst : Reg) (src : Reg) (s : State) : Out :=
  alu64 aluMul dst (.reg src) s

/-- `div32_imm`: `dst <- dst / b, unsigned` at 32 bits, `b` the immediate (R152). -/
def execDiv32Imm (dst : Reg) (imm : BitVec 32) (s : State) : Out :=
  alu32 aluDiv dst (.imm imm) s

/-- `div32_reg`: `dst <- dst / b, unsigned` at 32 bits, `b` a register (R153). -/
def execDiv32Reg (dst : Reg) (src : Reg) (s : State) : Out :=
  alu32 aluDiv dst (.reg src) s

/-- `div64_imm`: `dst <- dst / b, unsigned` at 64 bits, `b` the immediate (R154). -/
def execDiv64Imm (dst : Reg) (imm : BitVec 32) (s : State) : Out :=
  alu64 aluDiv dst (.imm imm) s

/-- `div64_reg`: `dst <- dst / b, unsigned` at 64 bits, `b` a register (R155). -/
def execDiv64Reg (dst : Reg) (src : Reg) (s : State) : Out :=
  alu64 aluDiv dst (.reg src) s

/-- `sdiv32_imm`: `dst <- dst / b, signed` at 32 bits, `b` the immediate (R156). -/
def execSdiv32Imm (dst : Reg) (imm : BitVec 32) (s : State) : Out :=
  alu32 aluSdiv dst (.imm imm) s

/-- `sdiv32_reg`: `dst <- dst / b, signed` at 32 bits, `b` a register (R157). -/
def execSdiv32Reg (dst : Reg) (src : Reg) (s : State) : Out :=
  alu32 aluSdiv dst (.reg src) s

/-- `sdiv64_imm`: `dst <- dst / b, signed` at 64 bits, `b` the immediate (R158). -/
def execSdiv64Imm (dst : Reg) (imm : BitVec 32) (s : State) : Out :=
  alu64 aluSdiv dst (.imm imm) s

/-- `sdiv64_reg`: `dst <- dst / b, signed` at 64 bits, `b` a register (R159). -/
def execSdiv64Reg (dst : Reg) (src : Reg) (s : State) : Out :=
  alu64 aluSdiv dst (.reg src) s

/-- `or32_imm`: `dst <- dst | b` at 32 bits, `b` the immediate (R160). -/
def execOr32Imm (dst : Reg) (imm : BitVec 32) (s : State) : Out :=
  alu32 aluOr dst (.imm imm) s

/-- `or32_reg`: `dst <- dst | b` at 32 bits, `b` a register (R161). -/
def execOr32Reg (dst : Reg) (src : Reg) (s : State) : Out :=
  alu32 aluOr dst (.reg src) s

/-- `or64_imm`: `dst <- dst | b` at 64 bits, `b` the immediate (R162). -/
def execOr64Imm (dst : Reg) (imm : BitVec 32) (s : State) : Out :=
  alu64 aluOr dst (.imm imm) s

/-- `or64_reg`: `dst <- dst | b` at 64 bits, `b` a register (R163). -/
def execOr64Reg (dst : Reg) (src : Reg) (s : State) : Out :=
  alu64 aluOr dst (.reg src) s

/-- `and32_imm`: `dst <- dst & b` at 32 bits, `b` the immediate (R164). -/
def execAnd32Imm (dst : Reg) (imm : BitVec 32) (s : State) : Out :=
  alu32 aluAnd dst (.imm imm) s

/-- `and32_reg`: `dst <- dst & b` at 32 bits, `b` a register (R165). -/
def execAnd32Reg (dst : Reg) (src : Reg) (s : State) : Out :=
  alu32 aluAnd dst (.reg src) s

/-- `and64_imm`: `dst <- dst & b` at 64 bits, `b` the immediate (R166). -/
def execAnd64Imm (dst : Reg) (imm : BitVec 32) (s : State) : Out :=
  alu64 aluAnd dst (.imm imm) s

/-- `and64_reg`: `dst <- dst & b` at 64 bits, `b` a register (R167). -/
def execAnd64Reg (dst : Reg) (src : Reg) (s : State) : Out :=
  alu64 aluAnd dst (.reg src) s

/-- `lsh32_imm`: `dst <- dst << (b & mask)` at 32 bits, `b` the immediate (R168). -/
def execLsh32Imm (dst : Reg) (imm : BitVec 32) (s : State) : Out :=
  alu32 aluLsh dst (.imm imm) s

/-- `lsh32_reg`: `dst <- dst << (b & mask)` at 32 bits, `b` a register (R169). -/
def execLsh32Reg (dst : Reg) (src : Reg) (s : State) : Out :=
  alu32 aluLsh dst (.reg src) s

/-- `lsh64_imm`: `dst <- dst << (b & mask)` at 64 bits, `b` the immediate (R170). -/
def execLsh64Imm (dst : Reg) (imm : BitVec 32) (s : State) : Out :=
  alu64 aluLsh dst (.imm imm) s

/-- `lsh64_reg`: `dst <- dst << (b & mask)` at 64 bits, `b` a register (R171). -/
def execLsh64Reg (dst : Reg) (src : Reg) (s : State) : Out :=
  alu64 aluLsh dst (.reg src) s

/-- `rsh32_imm`: `dst <- dst >> (b & mask), zeros entering` at 32 bits, `b` the immediate (R172). -/
def execRsh32Imm (dst : Reg) (imm : BitVec 32) (s : State) : Out :=
  alu32 aluRsh dst (.imm imm) s

/-- `rsh32_reg`: `dst <- dst >> (b & mask), zeros entering` at 32 bits, `b` a register (R173). -/
def execRsh32Reg (dst : Reg) (src : Reg) (s : State) : Out :=
  alu32 aluRsh dst (.reg src) s

/-- `rsh64_imm`: `dst <- dst >> (b & mask), zeros entering` at 64 bits, `b` the immediate (R174). -/
def execRsh64Imm (dst : Reg) (imm : BitVec 32) (s : State) : Out :=
  alu64 aluRsh dst (.imm imm) s

/-- `rsh64_reg`: `dst <- dst >> (b & mask), zeros entering` at 64 bits, `b` a register (R175). -/
def execRsh64Reg (dst : Reg) (src : Reg) (s : State) : Out :=
  alu64 aluRsh dst (.reg src) s

/-- `mod32_imm`: `dst <- dst % b, unsigned` at 32 bits, `b` the immediate (R176). -/
def execMod32Imm (dst : Reg) (imm : BitVec 32) (s : State) : Out :=
  alu32 aluMod dst (.imm imm) s

/-- `mod32_reg`: `dst <- dst % b, unsigned` at 32 bits, `b` a register (R177). -/
def execMod32Reg (dst : Reg) (src : Reg) (s : State) : Out :=
  alu32 aluMod dst (.reg src) s

/-- `mod64_imm`: `dst <- dst % b, unsigned` at 64 bits, `b` the immediate (R178). -/
def execMod64Imm (dst : Reg) (imm : BitVec 32) (s : State) : Out :=
  alu64 aluMod dst (.imm imm) s

/-- `mod64_reg`: `dst <- dst % b, unsigned` at 64 bits, `b` a register (R179). -/
def execMod64Reg (dst : Reg) (src : Reg) (s : State) : Out :=
  alu64 aluMod dst (.reg src) s

/-- `smod32_imm`: `dst <- dst % b, signed` at 32 bits, `b` the immediate (R180). -/
def execSmod32Imm (dst : Reg) (imm : BitVec 32) (s : State) : Out :=
  alu32 aluSmod dst (.imm imm) s

/-- `smod32_reg`: `dst <- dst % b, signed` at 32 bits, `b` a register (R181). -/
def execSmod32Reg (dst : Reg) (src : Reg) (s : State) : Out :=
  alu32 aluSmod dst (.reg src) s

/-- `smod64_imm`: `dst <- dst % b, signed` at 64 bits, `b` the immediate (R182). -/
def execSmod64Imm (dst : Reg) (imm : BitVec 32) (s : State) : Out :=
  alu64 aluSmod dst (.imm imm) s

/-- `smod64_reg`: `dst <- dst % b, signed` at 64 bits, `b` a register (R183). -/
def execSmod64Reg (dst : Reg) (src : Reg) (s : State) : Out :=
  alu64 aluSmod dst (.reg src) s

/-- `xor32_imm`: `dst <- dst ^ b` at 32 bits, `b` the immediate (R184). -/
def execXor32Imm (dst : Reg) (imm : BitVec 32) (s : State) : Out :=
  alu32 aluXor dst (.imm imm) s

/-- `xor32_reg`: `dst <- dst ^ b` at 32 bits, `b` a register (R185). -/
def execXor32Reg (dst : Reg) (src : Reg) (s : State) : Out :=
  alu32 aluXor dst (.reg src) s

/-- `xor64_imm`: `dst <- dst ^ b` at 64 bits, `b` the immediate (R186). -/
def execXor64Imm (dst : Reg) (imm : BitVec 32) (s : State) : Out :=
  alu64 aluXor dst (.imm imm) s

/-- `xor64_reg`: `dst <- dst ^ b` at 64 bits, `b` a register (R187). -/
def execXor64Reg (dst : Reg) (src : Reg) (s : State) : Out :=
  alu64 aluXor dst (.reg src) s

/-- `mov32_imm`: `dst <- b` at 32 bits, `b` the immediate (R188). -/
def execMov32Imm (dst : Reg) (imm : BitVec 32) (s : State) : Out :=
  move32 dst (.imm imm) s

/-- `mov32_reg`: `dst <- b` at 32 bits, `b` a register (R189). -/
def execMov32Reg (dst : Reg) (src : Reg) (s : State) : Out :=
  move32 dst (.reg src) s

/-- `mov64_imm`: `dst <- b` at 64 bits, `b` the immediate (R190). -/
def execMov64Imm (dst : Reg) (imm : BitVec 32) (s : State) : Out :=
  move64 dst (.imm imm) s

/-- `mov64_reg`: `dst <- b` at 64 bits, `b` a register (R191). -/
def execMov64Reg (dst : Reg) (src : Reg) (s : State) : Out :=
  move64 dst (.reg src) s

/-- `arsh32_imm`: `dst <- dst >> (b & mask), sign bits entering` at 32 bits, `b` the immediate (R192). -/
def execArsh32Imm (dst : Reg) (imm : BitVec 32) (s : State) : Out :=
  alu32 aluArsh dst (.imm imm) s

/-- `arsh32_reg`: `dst <- dst >> (b & mask), sign bits entering` at 32 bits, `b` a register (R193). -/
def execArsh32Reg (dst : Reg) (src : Reg) (s : State) : Out :=
  alu32 aluArsh dst (.reg src) s

/-- `arsh64_imm`: `dst <- dst >> (b & mask), sign bits entering` at 64 bits, `b` the immediate (R194). -/
def execArsh64Imm (dst : Reg) (imm : BitVec 32) (s : State) : Out :=
  alu64 aluArsh dst (.imm imm) s

/-- `arsh64_reg`: `dst <- dst >> (b & mask), sign bits entering` at 64 bits, `b` a register (R195). -/
def execArsh64Reg (dst : Reg) (src : Reg) (s : State) : Out :=
  alu64 aluArsh dst (.reg src) s

/-- `neg32`: `dst <- -dst` at 32 bits (R196). -/
def execNeg32 (dst : Reg) (s : State) : Out :=
  readReg s dst fun a => .next (s.result dst ((aluNeg (a.setWidth 32)).setWidth 64))

/-- `neg64`: `dst <- -dst` at 64 bits (R197). -/
def execNeg64 (dst : Reg) (s : State) : Out :=
  readReg s dst fun a => .next (s.result dst (aluNeg a))

/-- `movsx32_8`: `dst <- src[7:0]` sign extended to 32 bits (R198). -/
def execMovsx32From8 (dst : Reg) (src : Reg) (s : State) : Out :=
  moveSx 8 32 dst src s

/-- `movsx32_16`: `dst <- src[15:0]` sign extended to 32 bits (R199). -/
def execMovsx32From16 (dst : Reg) (src : Reg) (s : State) : Out :=
  moveSx 16 32 dst src s

/-- `movsx64_8`: `dst <- src[7:0]` sign extended to 64 bits (R200). -/
def execMovsx64From8 (dst : Reg) (src : Reg) (s : State) : Out :=
  moveSx 8 64 dst src s

/-- `movsx64_16`: `dst <- src[15:0]` sign extended to 64 bits (R201). -/
def execMovsx64From16 (dst : Reg) (src : Reg) (s : State) : Out :=
  moveSx 16 64 dst src s

/-- `movsx64_32`: `dst <- src[31:0]` sign extended to 64 bits (R202). -/
def execMovsx64From32 (dst : Reg) (src : Reg) (s : State) : Out :=
  moveSx 32 64 dst src s

end Sys2Proof.Machine
end

