-- ==== Sys2Proof/Machine/Atomic.lean ====
section
/-! DEFINITION. Machine/Atomic.lean: the atomic operations (44_atomic.md). All registers are read before the memory
operation, and the register write comes last (R337). -/

namespace Sys2Proof.Machine

/-- A 32-bit operation, applied to the low halves; memory holds 4 bytes (R335). -/
def low32 (f : BitVec 32 → BitVec 32 → BitVec 32) (old v : Word) : Word :=
  (f (old.setWidth 32) (v.setWidth 32)).setWidth 64

/-- `XCHG`: the new value is the operand, whatever the old one was (R336). -/
def exchange {w : Nat} (_old v : BitVec w) : BitVec w := v

/-- `CMPXCHG`: the operand if memory matches the comparand, else the old value (R336). -/
def compareExchange {w : Nat} (c old v : BitVec w) : BitVec w := if old = c then v else old

/-- An atomic without `FETCH`: `AtomicRMW(ea, n, old -> f(old, x[s]))`; no register is written (R333, R334). -/
def atomicPlain (n : Nat) (f : Word → Word → Word) (dst src : Reg) (offset : BitVec 16) (s : State) : Out :=
  readReg s dst fun base => readReg s src fun v =>
    atomicRMW s (effAddr base offset) n (fun old => f old v) fun _ t => .next (t.advance 1)

/-- An atomic with `FETCH`, and `XCHG`: `src` receives the old value, zero extended (R334, R335). -/
def atomicFetch (n : Nat) (f : Word → Word → Word) (dst src : Reg) (offset : BitVec 16) (s : State) : Out :=
  readReg s dst fun base => readReg s src fun v =>
    atomicRMW s (effAddr base offset) n (fun old => f old v) fun old t => .next ((t.setReg src old).advance 1)

/-- `CMPXCHG`: memory is compared with `R0`, and `R0` receives the old value, zero extended (R335, R336). -/
def atomicCompare (n : Nat) (f : Word → Word → Word → Word) (dst src : Reg) (offset : BitVec 16) (s : State) : Out :=
  readReg s dst fun base => readReg s src fun v => readReg s .r0 fun c =>
    atomicRMW s (effAddr base offset) n (fun old => f c old v) fun old t => .next ((t.setReg .r0 old).advance 1)

/-- `atomic_add32`: 4 bytes become `old + src` (R340). -/
def execAtomicAdd32 (dst : Reg) (src : Reg) (offset : BitVec 16) (s : State) : Out :=
  atomicPlain 4 (low32 aluAdd) dst src offset s

/-- `atomic_fetch_add32`: 4 bytes become `old + src`, and `src` receives `old` (R341). -/
def execAtomicFetchAdd32 (dst : Reg) (src : Reg) (offset : BitVec 16) (s : State) : Out :=
  atomicFetch 4 (low32 aluAdd) dst src offset s

/-- `atomic_or32`: 4 bytes become `old | src` (R342). -/
def execAtomicOr32 (dst : Reg) (src : Reg) (offset : BitVec 16) (s : State) : Out :=
  atomicPlain 4 (low32 aluOr) dst src offset s

/-- `atomic_fetch_or32`: 4 bytes become `old | src`, and `src` receives `old` (R343). -/
def execAtomicFetchOr32 (dst : Reg) (src : Reg) (offset : BitVec 16) (s : State) : Out :=
  atomicFetch 4 (low32 aluOr) dst src offset s

/-- `atomic_and32`: 4 bytes become `old & src` (R344). -/
def execAtomicAnd32 (dst : Reg) (src : Reg) (offset : BitVec 16) (s : State) : Out :=
  atomicPlain 4 (low32 aluAnd) dst src offset s

/-- `atomic_fetch_and32`: 4 bytes become `old & src`, and `src` receives `old` (R345). -/
def execAtomicFetchAnd32 (dst : Reg) (src : Reg) (offset : BitVec 16) (s : State) : Out :=
  atomicFetch 4 (low32 aluAnd) dst src offset s

/-- `atomic_xor32`: 4 bytes become `old ^ src` (R346). -/
def execAtomicXor32 (dst : Reg) (src : Reg) (offset : BitVec 16) (s : State) : Out :=
  atomicPlain 4 (low32 aluXor) dst src offset s

/-- `atomic_fetch_xor32`: 4 bytes become `old ^ src`, and `src` receives `old` (R347). -/
def execAtomicFetchXor32 (dst : Reg) (src : Reg) (offset : BitVec 16) (s : State) : Out :=
  atomicFetch 4 (low32 aluXor) dst src offset s

/-- `atomic_add64`: 8 bytes become `old + src` (R348). -/
def execAtomicAdd64 (dst : Reg) (src : Reg) (offset : BitVec 16) (s : State) : Out :=
  atomicPlain 8 aluAdd dst src offset s

/-- `atomic_fetch_add64`: 8 bytes become `old + src`, and `src` receives `old` (R349). -/
def execAtomicFetchAdd64 (dst : Reg) (src : Reg) (offset : BitVec 16) (s : State) : Out :=
  atomicFetch 8 aluAdd dst src offset s

/-- `atomic_or64`: 8 bytes become `old | src` (R350). -/
def execAtomicOr64 (dst : Reg) (src : Reg) (offset : BitVec 16) (s : State) : Out :=
  atomicPlain 8 aluOr dst src offset s

/-- `atomic_fetch_or64`: 8 bytes become `old | src`, and `src` receives `old` (R351). -/
def execAtomicFetchOr64 (dst : Reg) (src : Reg) (offset : BitVec 16) (s : State) : Out :=
  atomicFetch 8 aluOr dst src offset s

/-- `atomic_and64`: 8 bytes become `old & src` (R352). -/
def execAtomicAnd64 (dst : Reg) (src : Reg) (offset : BitVec 16) (s : State) : Out :=
  atomicPlain 8 aluAnd dst src offset s

/-- `atomic_fetch_and64`: 8 bytes become `old & src`, and `src` receives `old` (R353). -/
def execAtomicFetchAnd64 (dst : Reg) (src : Reg) (offset : BitVec 16) (s : State) : Out :=
  atomicFetch 8 aluAnd dst src offset s

/-- `atomic_xor64`: 8 bytes become `old ^ src` (R354). -/
def execAtomicXor64 (dst : Reg) (src : Reg) (offset : BitVec 16) (s : State) : Out :=
  atomicPlain 8 aluXor dst src offset s

/-- `atomic_fetch_xor64`: 8 bytes become `old ^ src`, and `src` receives `old` (R355). -/
def execAtomicFetchXor64 (dst : Reg) (src : Reg) (offset : BitVec 16) (s : State) : Out :=
  atomicFetch 8 aluXor dst src offset s

/-- `atomic_xchg32`: 4 bytes become `src`, and `src` receives what they were (R356). -/
def execAtomicXchg32 (dst : Reg) (src : Reg) (offset : BitVec 16) (s : State) : Out :=
  atomicFetch 4 (low32 exchange) dst src offset s

/-- `atomic_xchg64`: 8 bytes become `src`, and `src` receives what they were (R357). -/
def execAtomicXchg64 (dst : Reg) (src : Reg) (offset : BitVec 16) (s : State) : Out :=
  atomicFetch 8 exchange dst src offset s

/-- `atomic_cmpxchg32`: 4 bytes become `src` if they equal `R0`; `R0` receives what they were (R358). -/
def execAtomicCmpxchg32 (dst : Reg) (src : Reg) (offset : BitVec 16) (s : State) : Out :=
  atomicCompare 4 (fun c => low32 (compareExchange (c.setWidth 32))) dst src offset s

/-- `atomic_cmpxchg64`: 8 bytes become `src` if they equal `R0`; `R0` receives what they were (R359). -/
def execAtomicCmpxchg64 (dst : Reg) (src : Reg) (offset : BitVec 16) (s : State) : Out :=
  atomicCompare 8 compareExchange dst src offset s

end Sys2Proof.Machine
end

