-- ==== Sys2Proof/Machine/Call.lean ====
section
/-! DEFINITION. Machine/Call.lean: `CALL` in its three kinds and `EXIT` (42_jump.md). -/

namespace Sys2Proof.Machine

/-- `call_helper`: call the platform's helper with the static ID `imm` (R296). -/
def execCallHelper (imm : BitVec 32) (s : State) : Out :=
  callPlatform s (.static imm.toInt) imm.toInt

/-- `call_local`: call the function of the same program at `pc + 1 + imm` (R297). -/
def execCallLocal (imm : BitVec 32) (s : State) : Out :=
  callFrame s imm.toInt

/-- `call_btf`: call the platform's function with BTF ID `imm`; `offset` is handed to the platform (R298). -/
def execCallBtf (offset : BitVec 16) (imm : BitVec 32) (s : State) : Out :=
  callPlatform s (.btf imm.toInt offset.toInt) imm.toInt

/-- `exit`: return from a program-local function, or end the run with the value of `R0` (R299). -/
def execExit (s : State) : Out :=
  exitFrame s

end Sys2Proof.Machine
end

