-- ==== Sys2Proof/Machine/Imm64.lean ====
section
/-! DEFINITION. Machine/Imm64.lean: the seven wide instructions (45_imm64.md). Each takes two slots, so `pc` advances
by 2 (R34(a), R362). -/

namespace Sys2Proof.Machine

/-- The end of a wide instruction: `x[d] <- v`, then `pc <- pc + 2` (R362). -/
def State.resultWide (s : State) (dst : Reg) (v : Word) : State := (s.setReg dst v).advance 2

/-- A wide instruction whose result is a platform function's value (R361). -/
def platformForm (v : Option Word) (dst : Reg) (s : State) : Out :=
  platformValue v fun a => .next (s.resultWide dst a)

/-- A wide instruction whose result is an address in a map's values: `map_val(map) + sext_64(next_imm)`, modulo 2^64; both
functions must be defined (R361, R367, D36). -/
def mapValueForm (map : Option Word) (dst : Reg) (nextImm : BitVec 32) (s : State) : Out :=
  platformValue map fun m => platformValue (s.plat.mapVal.lookup m) fun a =>
    .next (s.resultWide dst (a + nextImm.signExtend 64))

/-- `lddw`: `dst <- (next_imm << 32) | imm` (R365). -/
def execLddw (dst : Reg) (imm : BitVec 32) (nextImm : BitVec 32) (s : State) : Out :=
  .next (s.resultWide dst (nextImm ++ imm))

/-- `ld_map_fd`: `dst <- map_by_fd(imm)` (R366). -/
def execLdMapFd (dst : Reg) (imm : BitVec 32) (s : State) : Out :=
  platformForm (s.plat.mapByFd.lookup imm.toInt) dst s

/-- `ld_map_fd_val`: `dst <- map_val(map_by_fd(imm)) + next_imm` (R367). -/
def execLdMapFdVal (dst : Reg) (imm : BitVec 32) (nextImm : BitVec 32) (s : State) : Out :=
  mapValueForm (s.plat.mapByFd.lookup imm.toInt) dst nextImm s

/-- `ld_var_addr`: `dst <- var_addr(imm)` (R368). -/
def execLdVarAddr (dst : Reg) (imm : BitVec 32) (s : State) : Out :=
  platformForm (s.plat.varAddr.lookup imm.toInt) dst s

/-- `ld_code_addr`: `dst <- code_addr(pc, imm)` (R369). -/
def execLdCodeAddr (dst : Reg) (imm : BitVec 32) (s : State) : Out :=
  platformForm (s.plat.codeAddr.lookup (s.pc, imm.toInt)) dst s

/-- `ld_map_idx`: `dst <- map_by_idx(imm)` (R370). -/
def execLdMapIdx (dst : Reg) (imm : BitVec 32) (s : State) : Out :=
  platformForm (s.plat.mapByIdx.lookup imm.toInt) dst s

/-- `ld_map_idx_val`: `dst <- map_val(map_by_idx(imm)) + next_imm` (R371). -/
def execLdMapIdxVal (dst : Reg) (imm : BitVec 32) (nextImm : BitVec 32) (s : State) : Out :=
  mapValueForm (s.plat.mapByIdx.lookup imm.toInt) dst nextImm s

end Sys2Proof.Machine
end

