-- ==== Sys2Proof/Machine/Flags.lean ====
section
/-! DEFINITION. Machine/Flags.lean: the machine has no flags (R37). What other machines compute from flags, a conditional
jump computes from its two operands (R233): the conditions of its table, at either width. -/

namespace Sys2Proof.Machine

variable {w : Nat}

/-- `JEQ`: `a = b` (R233). -/
def condEq (a b : BitVec w) : Bool := a == b

/-- `JNE`: `a != b` (R233). -/
def condNe (a b : BitVec w) : Bool := a != b

/-- `JSET`: `(a & b) != 0` (R233). -/
def condSet (a b : BitVec w) : Bool := (a &&& b) != 0

/-- `JGT`: `a > b`, unsigned (R233). -/
def condGt (a b : BitVec w) : Bool := decide (a.toNat > b.toNat)

/-- `JGE`: `a >= b`, unsigned (R233). -/
def condGe (a b : BitVec w) : Bool := decide (a.toNat ≥ b.toNat)

/-- `JLT`: `a < b`, unsigned (R233). -/
def condLt (a b : BitVec w) : Bool := decide (a.toNat < b.toNat)

/-- `JLE`: `a <= b`, unsigned (R233). -/
def condLe (a b : BitVec w) : Bool := decide (a.toNat ≤ b.toNat)

/-- `JSGT`: `sw(a) > sw(b)` (R233). -/
def condSgt (a b : BitVec w) : Bool := decide (a.toInt > b.toInt)

/-- `JSGE`: `sw(a) >= sw(b)` (R233). -/
def condSge (a b : BitVec w) : Bool := decide (a.toInt ≥ b.toInt)

/-- `JSLT`: `sw(a) < sw(b)` (R233). -/
def condSlt (a b : BitVec w) : Bool := decide (a.toInt < b.toInt)

/-- `JSLE`: `sw(a) <= sw(b)` (R233). -/
def condSle (a b : BitVec w) : Bool := decide (a.toInt ≤ b.toInt)

end Sys2Proof.Machine
end

