-- ==== Sys2Proof/Machine/Jump.lean ====
section
/-! DEFINITION. Machine/Jump.lean: the two unconditional and 44 conditional jumps (42_jump.md,
42_jump_conditional.md). -/

namespace Sys2Proof.Machine

/-- A conditional jump: `pc <- pc + 1 + offset` if the condition holds, else `pc <- pc + 1` (R232). -/
def State.branch (s : State) (taken : Bool) (offset : BitVec 16) : State :=
  if taken then s.jump offset.toInt else s.advance 1

/-- A conditional jump of class `JMP` (R231). -/
def jump64 (c : BitVec 64 → BitVec 64 → Bool) (dst : Reg) (o : Operand) (offset : BitVec 16) (s : State) : Out :=
  operands64 s dst o fun a b => .next (s.branch (c a b) offset)

/-- A conditional jump of class `JMP32` (R231). -/
def jump32 (c : BitVec 32 → BitVec 32 → Bool) (dst : Reg) (o : Operand) (offset : BitVec 16) (s : State) : Out :=
  operands32 s dst o fun a b => .next (s.branch (c a b) offset)

/-- `ja`: `pc <- pc + 1 + offset` (R250). -/
def execJa (offset : BitVec 16) (s : State) : Out :=
  .next (s.jump offset.toInt)

/-- `ja32`: `pc <- pc + 1 + imm` (R251). -/
def execJa32 (imm : BitVec 32) (s : State) : Out :=
  .next (s.jump imm.toInt)

/-- `jeq64_imm`: jump if `dst = b` at 64 bits, `b` the immediate (R252). -/
def execJeq64Imm (dst : Reg) (imm : BitVec 32) (offset : BitVec 16) (s : State) : Out :=
  jump64 condEq dst (.imm imm) offset s

/-- `jeq64_reg`: jump if `dst = b` at 64 bits, `b` a register (R253). -/
def execJeq64Reg (dst : Reg) (src : Reg) (offset : BitVec 16) (s : State) : Out :=
  jump64 condEq dst (.reg src) offset s

/-- `jeq32_imm`: jump if `dst = b` at 32 bits, `b` the immediate (R254). -/
def execJeq32Imm (dst : Reg) (imm : BitVec 32) (offset : BitVec 16) (s : State) : Out :=
  jump32 condEq dst (.imm imm) offset s

/-- `jeq32_reg`: jump if `dst = b` at 32 bits, `b` a register (R255). -/
def execJeq32Reg (dst : Reg) (src : Reg) (offset : BitVec 16) (s : State) : Out :=
  jump32 condEq dst (.reg src) offset s

/-- `jgt64_imm`: jump if `dst > b, unsigned` at 64 bits, `b` the immediate (R256). -/
def execJgt64Imm (dst : Reg) (imm : BitVec 32) (offset : BitVec 16) (s : State) : Out :=
  jump64 condGt dst (.imm imm) offset s

/-- `jgt64_reg`: jump if `dst > b, unsigned` at 64 bits, `b` a register (R257). -/
def execJgt64Reg (dst : Reg) (src : Reg) (offset : BitVec 16) (s : State) : Out :=
  jump64 condGt dst (.reg src) offset s

/-- `jgt32_imm`: jump if `dst > b, unsigned` at 32 bits, `b` the immediate (R258). -/
def execJgt32Imm (dst : Reg) (imm : BitVec 32) (offset : BitVec 16) (s : State) : Out :=
  jump32 condGt dst (.imm imm) offset s

/-- `jgt32_reg`: jump if `dst > b, unsigned` at 32 bits, `b` a register (R259). -/
def execJgt32Reg (dst : Reg) (src : Reg) (offset : BitVec 16) (s : State) : Out :=
  jump32 condGt dst (.reg src) offset s

/-- `jge64_imm`: jump if `dst >= b, unsigned` at 64 bits, `b` the immediate (R260). -/
def execJge64Imm (dst : Reg) (imm : BitVec 32) (offset : BitVec 16) (s : State) : Out :=
  jump64 condGe dst (.imm imm) offset s

/-- `jge64_reg`: jump if `dst >= b, unsigned` at 64 bits, `b` a register (R261). -/
def execJge64Reg (dst : Reg) (src : Reg) (offset : BitVec 16) (s : State) : Out :=
  jump64 condGe dst (.reg src) offset s

/-- `jge32_imm`: jump if `dst >= b, unsigned` at 32 bits, `b` the immediate (R262). -/
def execJge32Imm (dst : Reg) (imm : BitVec 32) (offset : BitVec 16) (s : State) : Out :=
  jump32 condGe dst (.imm imm) offset s

/-- `jge32_reg`: jump if `dst >= b, unsigned` at 32 bits, `b` a register (R263). -/
def execJge32Reg (dst : Reg) (src : Reg) (offset : BitVec 16) (s : State) : Out :=
  jump32 condGe dst (.reg src) offset s

/-- `jset64_imm`: jump if `(dst & b) != 0` at 64 bits, `b` the immediate (R264). -/
def execJset64Imm (dst : Reg) (imm : BitVec 32) (offset : BitVec 16) (s : State) : Out :=
  jump64 condSet dst (.imm imm) offset s

/-- `jset64_reg`: jump if `(dst & b) != 0` at 64 bits, `b` a register (R265). -/
def execJset64Reg (dst : Reg) (src : Reg) (offset : BitVec 16) (s : State) : Out :=
  jump64 condSet dst (.reg src) offset s

/-- `jset32_imm`: jump if `(dst & b) != 0` at 32 bits, `b` the immediate (R266). -/
def execJset32Imm (dst : Reg) (imm : BitVec 32) (offset : BitVec 16) (s : State) : Out :=
  jump32 condSet dst (.imm imm) offset s

/-- `jset32_reg`: jump if `(dst & b) != 0` at 32 bits, `b` a register (R267). -/
def execJset32Reg (dst : Reg) (src : Reg) (offset : BitVec 16) (s : State) : Out :=
  jump32 condSet dst (.reg src) offset s

/-- `jne64_imm`: jump if `dst != b` at 64 bits, `b` the immediate (R268). -/
def execJne64Imm (dst : Reg) (imm : BitVec 32) (offset : BitVec 16) (s : State) : Out :=
  jump64 condNe dst (.imm imm) offset s

/-- `jne64_reg`: jump if `dst != b` at 64 bits, `b` a register (R269). -/
def execJne64Reg (dst : Reg) (src : Reg) (offset : BitVec 16) (s : State) : Out :=
  jump64 condNe dst (.reg src) offset s

/-- `jne32_imm`: jump if `dst != b` at 32 bits, `b` the immediate (R270). -/
def execJne32Imm (dst : Reg) (imm : BitVec 32) (offset : BitVec 16) (s : State) : Out :=
  jump32 condNe dst (.imm imm) offset s

/-- `jne32_reg`: jump if `dst != b` at 32 bits, `b` a register (R271). -/
def execJne32Reg (dst : Reg) (src : Reg) (offset : BitVec 16) (s : State) : Out :=
  jump32 condNe dst (.reg src) offset s

/-- `jsgt64_imm`: jump if `dst > b, signed` at 64 bits, `b` the immediate (R272). -/
def execJsgt64Imm (dst : Reg) (imm : BitVec 32) (offset : BitVec 16) (s : State) : Out :=
  jump64 condSgt dst (.imm imm) offset s

/-- `jsgt64_reg`: jump if `dst > b, signed` at 64 bits, `b` a register (R273). -/
def execJsgt64Reg (dst : Reg) (src : Reg) (offset : BitVec 16) (s : State) : Out :=
  jump64 condSgt dst (.reg src) offset s

/-- `jsgt32_imm`: jump if `dst > b, signed` at 32 bits, `b` the immediate (R274). -/
def execJsgt32Imm (dst : Reg) (imm : BitVec 32) (offset : BitVec 16) (s : State) : Out :=
  jump32 condSgt dst (.imm imm) offset s

/-- `jsgt32_reg`: jump if `dst > b, signed` at 32 bits, `b` a register (R275). -/
def execJsgt32Reg (dst : Reg) (src : Reg) (offset : BitVec 16) (s : State) : Out :=
  jump32 condSgt dst (.reg src) offset s

/-- `jsge64_imm`: jump if `dst >= b, signed` at 64 bits, `b` the immediate (R276). -/
def execJsge64Imm (dst : Reg) (imm : BitVec 32) (offset : BitVec 16) (s : State) : Out :=
  jump64 condSge dst (.imm imm) offset s

/-- `jsge64_reg`: jump if `dst >= b, signed` at 64 bits, `b` a register (R277). -/
def execJsge64Reg (dst : Reg) (src : Reg) (offset : BitVec 16) (s : State) : Out :=
  jump64 condSge dst (.reg src) offset s

/-- `jsge32_imm`: jump if `dst >= b, signed` at 32 bits, `b` the immediate (R278). -/
def execJsge32Imm (dst : Reg) (imm : BitVec 32) (offset : BitVec 16) (s : State) : Out :=
  jump32 condSge dst (.imm imm) offset s

/-- `jsge32_reg`: jump if `dst >= b, signed` at 32 bits, `b` a register (R279). -/
def execJsge32Reg (dst : Reg) (src : Reg) (offset : BitVec 16) (s : State) : Out :=
  jump32 condSge dst (.reg src) offset s

/-- `jlt64_imm`: jump if `dst < b, unsigned` at 64 bits, `b` the immediate (R280). -/
def execJlt64Imm (dst : Reg) (imm : BitVec 32) (offset : BitVec 16) (s : State) : Out :=
  jump64 condLt dst (.imm imm) offset s

/-- `jlt64_reg`: jump if `dst < b, unsigned` at 64 bits, `b` a register (R281). -/
def execJlt64Reg (dst : Reg) (src : Reg) (offset : BitVec 16) (s : State) : Out :=
  jump64 condLt dst (.reg src) offset s

/-- `jlt32_imm`: jump if `dst < b, unsigned` at 32 bits, `b` the immediate (R282). -/
def execJlt32Imm (dst : Reg) (imm : BitVec 32) (offset : BitVec 16) (s : State) : Out :=
  jump32 condLt dst (.imm imm) offset s

/-- `jlt32_reg`: jump if `dst < b, unsigned` at 32 bits, `b` a register (R283). -/
def execJlt32Reg (dst : Reg) (src : Reg) (offset : BitVec 16) (s : State) : Out :=
  jump32 condLt dst (.reg src) offset s

/-- `jle64_imm`: jump if `dst <= b, unsigned` at 64 bits, `b` the immediate (R284). -/
def execJle64Imm (dst : Reg) (imm : BitVec 32) (offset : BitVec 16) (s : State) : Out :=
  jump64 condLe dst (.imm imm) offset s

/-- `jle64_reg`: jump if `dst <= b, unsigned` at 64 bits, `b` a register (R285). -/
def execJle64Reg (dst : Reg) (src : Reg) (offset : BitVec 16) (s : State) : Out :=
  jump64 condLe dst (.reg src) offset s

/-- `jle32_imm`: jump if `dst <= b, unsigned` at 32 bits, `b` the immediate (R286). -/
def execJle32Imm (dst : Reg) (imm : BitVec 32) (offset : BitVec 16) (s : State) : Out :=
  jump32 condLe dst (.imm imm) offset s

/-- `jle32_reg`: jump if `dst <= b, unsigned` at 32 bits, `b` a register (R287). -/
def execJle32Reg (dst : Reg) (src : Reg) (offset : BitVec 16) (s : State) : Out :=
  jump32 condLe dst (.reg src) offset s

/-- `jslt64_imm`: jump if `dst < b, signed` at 64 bits, `b` the immediate (R288). -/
def execJslt64Imm (dst : Reg) (imm : BitVec 32) (offset : BitVec 16) (s : State) : Out :=
  jump64 condSlt dst (.imm imm) offset s

/-- `jslt64_reg`: jump if `dst < b, signed` at 64 bits, `b` a register (R289). -/
def execJslt64Reg (dst : Reg) (src : Reg) (offset : BitVec 16) (s : State) : Out :=
  jump64 condSlt dst (.reg src) offset s

/-- `jslt32_imm`: jump if `dst < b, signed` at 32 bits, `b` the immediate (R290). -/
def execJslt32Imm (dst : Reg) (imm : BitVec 32) (offset : BitVec 16) (s : State) : Out :=
  jump32 condSlt dst (.imm imm) offset s

/-- `jslt32_reg`: jump if `dst < b, signed` at 32 bits, `b` a register (R291). -/
def execJslt32Reg (dst : Reg) (src : Reg) (offset : BitVec 16) (s : State) : Out :=
  jump32 condSlt dst (.reg src) offset s

/-- `jsle64_imm`: jump if `dst <= b, signed` at 64 bits, `b` the immediate (R292). -/
def execJsle64Imm (dst : Reg) (imm : BitVec 32) (offset : BitVec 16) (s : State) : Out :=
  jump64 condSle dst (.imm imm) offset s

/-- `jsle64_reg`: jump if `dst <= b, signed` at 64 bits, `b` a register (R293). -/
def execJsle64Reg (dst : Reg) (src : Reg) (offset : BitVec 16) (s : State) : Out :=
  jump64 condSle dst (.reg src) offset s

/-- `jsle32_imm`: jump if `dst <= b, signed` at 32 bits, `b` the immediate (R294). -/
def execJsle32Imm (dst : Reg) (imm : BitVec 32) (offset : BitVec 16) (s : State) : Out :=
  jump32 condSle dst (.imm imm) offset s

/-- `jsle32_reg`: jump if `dst <= b, signed` at 32 bits, `b` a register (R295). -/
def execJsle32Reg (dst : Reg) (src : Reg) (offset : BitVec 16) (s : State) : Out :=
  jump32 condSle dst (.reg src) offset s

end Sys2Proof.Machine
end

