-- ==== Sys2Proof/Machine/LoadStore.lean ====
section
/-! DEFINITION. Machine/LoadStore.lean: the loads, sign-extension loads and stores (43_load_store.md). -/

namespace Sys2Proof.Machine

/-- A load: `x[d] <- g(MemRead(ea, n))`, `pc <- pc + 1` (R301, R302, R304). -/
def loadForm (n : Nat) (g : Word → Word) (dst src : Reg) (offset : BitVec 16) (s : State) : Out :=
  readReg s src fun base => memRead s (effAddr base offset) n fun v => .next ((s.setReg dst (g v)).advance 1)

/-- A store of the sign-extended immediate: `MemWrite(ea, n, sext_64(imm))`, `pc <- pc + 1` (R301, R303). -/
def storeImm (n : Nat) (dst : Reg) (offset : BitVec 16) (imm : BitVec 32) (s : State) : Out :=
  readReg s dst fun base => memWrite s (effAddr base offset) n (imm.signExtend 64) fun t => .next (t.advance 1)

/-- A store of a register: `MemWrite(ea, n, x[s])`, `pc <- pc + 1` (R301, R303). -/
def storeReg (n : Nat) (dst src : Reg) (offset : BitVec 16) (s : State) : Out :=
  readReg s dst fun base => readReg s src fun v =>
    memWrite s (effAddr base offset) n v fun t => .next (t.advance 1)

/-- `ldxw`: load 4 bytes, zero extended (R310). -/
def execLdxw (dst : Reg) (src : Reg) (offset : BitVec 16) (s : State) : Out :=
  loadForm 4 (fun v => v) dst src offset s

/-- `ldxh`: load 2 bytes, zero extended (R311). -/
def execLdxh (dst : Reg) (src : Reg) (offset : BitVec 16) (s : State) : Out :=
  loadForm 2 (fun v => v) dst src offset s

/-- `ldxb`: load 1 byte, zero extended (R312). -/
def execLdxb (dst : Reg) (src : Reg) (offset : BitVec 16) (s : State) : Out :=
  loadForm 1 (fun v => v) dst src offset s

/-- `ldxdw`: load 8 bytes, zero extended (R313). -/
def execLdxdw (dst : Reg) (src : Reg) (offset : BitVec 16) (s : State) : Out :=
  loadForm 8 (fun v => v) dst src offset s

/-- `ldxsw`: load 4 bytes, sign extended (R314). -/
def execLdxsw (dst : Reg) (src : Reg) (offset : BitVec 16) (s : State) : Out :=
  loadForm 4 (fun v => (v.setWidth 32).signExtend 64) dst src offset s

/-- `ldxsh`: load 2 bytes, sign extended (R315). -/
def execLdxsh (dst : Reg) (src : Reg) (offset : BitVec 16) (s : State) : Out :=
  loadForm 2 (fun v => (v.setWidth 16).signExtend 64) dst src offset s

/-- `ldxsb`: load 1 byte, sign extended (R316). -/
def execLdxsb (dst : Reg) (src : Reg) (offset : BitVec 16) (s : State) : Out :=
  loadForm 1 (fun v => (v.setWidth 8).signExtend 64) dst src offset s

/-- `stw`: store 4 bytes of the immediate (R317). -/
def execStw (dst : Reg) (offset : BitVec 16) (imm : BitVec 32) (s : State) : Out :=
  storeImm 4 dst offset imm s

/-- `sth`: store 2 bytes of the immediate (R318). -/
def execSth (dst : Reg) (offset : BitVec 16) (imm : BitVec 32) (s : State) : Out :=
  storeImm 2 dst offset imm s

/-- `stb`: store 1 byte of the immediate (R319). -/
def execStb (dst : Reg) (offset : BitVec 16) (imm : BitVec 32) (s : State) : Out :=
  storeImm 1 dst offset imm s

/-- `stdw`: store 8 bytes of the immediate (R320). -/
def execStdw (dst : Reg) (offset : BitVec 16) (imm : BitVec 32) (s : State) : Out :=
  storeImm 8 dst offset imm s

/-- `stxw`: store 4 bytes of a register (R321). -/
def execStxw (dst : Reg) (src : Reg) (offset : BitVec 16) (s : State) : Out :=
  storeReg 4 dst src offset s

/-- `stxh`: store 2 bytes of a register (R322). -/
def execStxh (dst : Reg) (src : Reg) (offset : BitVec 16) (s : State) : Out :=
  storeReg 2 dst src offset s

/-- `stxb`: store 1 byte of a register (R323). -/
def execStxb (dst : Reg) (src : Reg) (offset : BitVec 16) (s : State) : Out :=
  storeReg 1 dst src offset s

/-- `stxdw`: store 8 bytes of a register (R324). -/
def execStxdw (dst : Reg) (src : Reg) (offset : BitVec 16) (s : State) : Out :=
  storeReg 8 dst src offset s

end Sys2Proof.Machine
end

