-- ==== Sys2Proof/Machine/Packet.lean ====
section
/-! DEFINITION. Machine/Packet.lean: the six legacy packet loads (46_legacy_packet.md). The spec decodes them and gives
them no meaning: executing one raises `Unmodelled(pc)`, a refusal (R378, R411, notes/assumptions/11.md). -/

namespace Sys2Proof.Machine

/-- `ldabsw`: `raise Unmodelled(pc)` (R379). -/
def execLdabsw (_imm : BitVec 32) (s : State) : Out :=
  .refused (.unmodelled s.pc)

/-- `ldabsh`: `raise Unmodelled(pc)` (R380). -/
def execLdabsh (_imm : BitVec 32) (s : State) : Out :=
  .refused (.unmodelled s.pc)

/-- `ldabsb`: `raise Unmodelled(pc)` (R381). -/
def execLdabsb (_imm : BitVec 32) (s : State) : Out :=
  .refused (.unmodelled s.pc)

/-- `ldindw`: `raise Unmodelled(pc)` (R382). -/
def execLdindw (_src : Reg) (_imm : BitVec 32) (s : State) : Out :=
  .refused (.unmodelled s.pc)

/-- `ldindh`: `raise Unmodelled(pc)` (R383). -/
def execLdindh (_src : Reg) (_imm : BitVec 32) (s : State) : Out :=
  .refused (.unmodelled s.pc)

/-- `ldindb`: `raise Unmodelled(pc)` (R384). -/
def execLdindb (_src : Reg) (_imm : BitVec 32) (s : State) : Out :=
  .refused (.unmodelled s.pc)

end Sys2Proof.Machine
end

