-- ==== Sys2Proof/Machine/Swap.lean ====
section
/-! DEFINITION. Machine/Swap.lean: the nine byte swap instructions (41_byteswap.md) and the functions of R15. -/

namespace Sys2Proof.Machine

/-- `bswap16` (R15). -/
def bswap16 (v : BitVec 16) : BitVec 16 := v.extractLsb' 0 8 ++ v.extractLsb' 8 8

/-- `bswap32` (R15). -/
def bswap32 (v : BitVec 32) : BitVec 32 :=
  v.extractLsb' 0 8 ++ v.extractLsb' 8 8 ++ v.extractLsb' 16 8 ++ v.extractLsb' 24 8

/-- `bswap64` (R15). -/
def bswap64 (v : BitVec 64) : BitVec 64 :=
  v.extractLsb' 0 8 ++ v.extractLsb' 8 8 ++ v.extractLsb' 16 8 ++ v.extractLsb' 24 8 ++
    v.extractLsb' 32 8 ++ v.extractLsb' 40 8 ++ v.extractLsb' 48 8 ++ v.extractLsb' 56 8

/-- `leN`: between the host's order and little endian, the identity on a little-endian host (R15, R212). -/
def toLittle {w : Nat} (e : Endian) (swap : BitVec w → BitVec w) (v : BitVec w) : BitVec w :=
  match e with
  | .little => v
  | .big => swap v

/-- `beN`: between the host's order and big endian, the identity on a big-endian host (R15, R212). -/
def toBig {w : Nat} (e : Endian) (swap : BitVec w → BitVec w) (v : BitVec w) : BitVec w :=
  match e with
  | .little => swap v
  | .big => v

/-- A byte swap of the low `w` bits of `dst`, the result zero extended (R211). -/
def swapForm {w : Nat} (f : BitVec w → BitVec w) (dst : Reg) (s : State) : Out :=
  readReg s dst fun a => .next (s.result dst ((f (a.setWidth w)).setWidth 64))

/-- `le16`: the low 16 bits between the host's order and little endian (R215). -/
def execLe16 (dst : Reg) (s : State) : Out :=
  swapForm (toLittle s.plat.endian bswap16) dst s

/-- `le32`: the low 32 bits between the host's order and little endian (R216). -/
def execLe32 (dst : Reg) (s : State) : Out :=
  swapForm (toLittle s.plat.endian bswap32) dst s

/-- `le64`: the low 64 bits between the host's order and little endian (R217). -/
def execLe64 (dst : Reg) (s : State) : Out :=
  swapForm (toLittle s.plat.endian bswap64) dst s

/-- `be16`: the low 16 bits between the host's order and big endian (R218). -/
def execBe16 (dst : Reg) (s : State) : Out :=
  swapForm (toBig s.plat.endian bswap16) dst s

/-- `be32`: the low 32 bits between the host's order and big endian (R219). -/
def execBe32 (dst : Reg) (s : State) : Out :=
  swapForm (toBig s.plat.endian bswap32) dst s

/-- `be64`: the low 64 bits between the host's order and big endian (R220). -/
def execBe64 (dst : Reg) (s : State) : Out :=
  swapForm (toBig s.plat.endian bswap64) dst s

/-- `bswap16`: the low 16 bits with their bytes reversed (R221). -/
def execBswap16 (dst : Reg) (s : State) : Out :=
  swapForm bswap16 dst s

/-- `bswap32`: the low 32 bits with their bytes reversed (R222). -/
def execBswap32 (dst : Reg) (s : State) : Out :=
  swapForm bswap32 dst s

/-- `bswap64`: the low 64 bits with their bytes reversed (R223). -/
def execBswap64 (dst : Reg) (s : State) : Out :=
  swapForm bswap64 dst s

end Sys2Proof.Machine
end

