-- ==== Sys2Proof/WellFormed.lean ====
section
/-! DEFINITION. WellFormed.lean: which instruction terms are instructions of the machine.

The constructors of `Instr` already rule out the register numbers 11 to 15 and every wrong sub-selector. What is left
is R28 and R119: a register field that the row writes must not be `R10`. That is `dst_reg` in the arithmetic, byte swap,
load and 64-bit immediate rows, and `src_reg` in the atomics with `FETCH` other than `CMPXCHG`. -/

namespace Sys2Proof

/-- A register an instruction field may write: all but the frame pointer `R10` (R28). -/
def Reg.isWritable (r : Reg) : Bool := r != .r10

/-- The register a row writes through one of its fields is writable (R119). -/
def Instr.wellFormed : Instr → Bool
  | .add32Imm dst _ => dst.isWritable
  | .add32Reg dst _ => dst.isWritable
  | .add64Imm dst _ => dst.isWritable
  | .add64Reg dst _ => dst.isWritable
  | .sub32Imm dst _ => dst.isWritable
  | .sub32Reg dst _ => dst.isWritable
  | .sub64Imm dst _ => dst.isWritable
  | .sub64Reg dst _ => dst.isWritable
  | .mul32Imm dst _ => dst.isWritable
  | .mul32Reg dst _ => dst.isWritable
  | .mul64Imm dst _ => dst.isWritable
  | .mul64Reg dst _ => dst.isWritable
  | .div32Imm dst _ => dst.isWritable
  | .div32Reg dst _ => dst.isWritable
  | .div64Imm dst _ => dst.isWritable
  | .div64Reg dst _ => dst.isWritable
  | .sdiv32Imm dst _ => dst.isWritable
  | .sdiv32Reg dst _ => dst.isWritable
  | .sdiv64Imm dst _ => dst.isWritable
  | .sdiv64Reg dst _ => dst.isWritable
  | .or32Imm dst _ => dst.isWritable
  | .or32Reg dst _ => dst.isWritable
  | .or64Imm dst _ => dst.isWritable
  | .or64Reg dst _ => dst.isWritable
  | .and32Imm dst _ => dst.isWritable
  | .and32Reg dst _ => dst.isWritable
  | .and64Imm dst _ => dst.isWritable
  | .and64Reg dst _ => dst.isWritable
  | .lsh32Imm dst _ => dst.isWritable
  | .lsh32Reg dst _ => dst.isWritable
  | .lsh64Imm dst _ => dst.isWritable
  | .lsh64Reg dst _ => dst.isWritable
  | .rsh32Imm dst _ => dst.isWritable
  | .rsh32Reg dst _ => dst.isWritable
  | .rsh64Imm dst _ => dst.isWritable
  | .rsh64Reg dst _ => dst.isWritable
  | .mod32Imm dst _ => dst.isWritable
  | .mod32Reg dst _ => dst.isWritable
  | .mod64Imm dst _ => dst.isWritable
  | .mod64Reg dst _ => dst.isWritable
  | .smod32Imm dst _ => dst.isWritable
  | .smod32Reg dst _ => dst.isWritable
  | .smod64Imm dst _ => dst.isWritable
  | .smod64Reg dst _ => dst.isWritable
  | .xor32Imm dst _ => dst.isWritable
  | .xor32Reg dst _ => dst.isWritable
  | .xor64Imm dst _ => dst.isWritable
  | .xor64Reg dst _ => dst.isWritable
  | .mov32Imm dst _ => dst.isWritable
  | .mov32Reg dst _ => dst.isWritable
  | .mov64Imm dst _ => dst.isWritable
  | .mov64Reg dst _ => dst.isWritable
  | .arsh32Imm dst _ => dst.isWritable
  | .arsh32Reg dst _ => dst.isWritable
  | .arsh64Imm dst _ => dst.isWritable
  | .arsh64Reg dst _ => dst.isWritable
  | .neg32 dst => dst.isWritable
  | .neg64 dst => dst.isWritable
  | .movsx32From8 dst _ => dst.isWritable
  | .movsx32From16 dst _ => dst.isWritable
  | .movsx64From8 dst _ => dst.isWritable
  | .movsx64From16 dst _ => dst.isWritable
  | .movsx64From32 dst _ => dst.isWritable
  | .le16 dst => dst.isWritable
  | .le32 dst => dst.isWritable
  | .le64 dst => dst.isWritable
  | .be16 dst => dst.isWritable
  | .be32 dst => dst.isWritable
  | .be64 dst => dst.isWritable
  | .bswap16 dst => dst.isWritable
  | .bswap32 dst => dst.isWritable
  | .bswap64 dst => dst.isWritable
  | .ja _ => true
  | .ja32 _ => true
  | .jeq64Imm _ _ _ => true
  | .jeq64Reg _ _ _ => true
  | .jeq32Imm _ _ _ => true
  | .jeq32Reg _ _ _ => true
  | .jgt64Imm _ _ _ => true
  | .jgt64Reg _ _ _ => true
  | .jgt32Imm _ _ _ => true
  | .jgt32Reg _ _ _ => true
  | .jge64Imm _ _ _ => true
  | .jge64Reg _ _ _ => true
  | .jge32Imm _ _ _ => true
  | .jge32Reg _ _ _ => true
  | .jset64Imm _ _ _ => true
  | .jset64Reg _ _ _ => true
  | .jset32Imm _ _ _ => true
  | .jset32Reg _ _ _ => true
  | .jne64Imm _ _ _ => true
  | .jne64Reg _ _ _ => true
  | .jne32Imm _ _ _ => true
  | .jne32Reg _ _ _ => true
  | .jsgt64Imm _ _ _ => true
  | .jsgt64Reg _ _ _ => true
  | .jsgt32Imm _ _ _ => true
  | .jsgt32Reg _ _ _ => true
  | .jsge64Imm _ _ _ => true
  | .jsge64Reg _ _ _ => true
  | .jsge32Imm _ _ _ => true
  | .jsge32Reg _ _ _ => true
  | .jlt64Imm _ _ _ => true
  | .jlt64Reg _ _ _ => true
  | .jlt32Imm _ _ _ => true
  | .jlt32Reg _ _ _ => true
  | .jle64Imm _ _ _ => true
  | .jle64Reg _ _ _ => true
  | .jle32Imm _ _ _ => true
  | .jle32Reg _ _ _ => true
  | .jslt64Imm _ _ _ => true
  | .jslt64Reg _ _ _ => true
  | .jslt32Imm _ _ _ => true
  | .jslt32Reg _ _ _ => true
  | .jsle64Imm _ _ _ => true
  | .jsle64Reg _ _ _ => true
  | .jsle32Imm _ _ _ => true
  | .jsle32Reg _ _ _ => true
  | .callHelper _ => true
  | .callLocal _ => true
  | .callBtf _ _ => true
  | .exit => true
  | .ldxw dst _ _ => dst.isWritable
  | .ldxh dst _ _ => dst.isWritable
  | .ldxb dst _ _ => dst.isWritable
  | .ldxdw dst _ _ => dst.isWritable
  | .ldxsw dst _ _ => dst.isWritable
  | .ldxsh dst _ _ => dst.isWritable
  | .ldxsb dst _ _ => dst.isWritable
  | .stw _ _ _ => true
  | .sth _ _ _ => true
  | .stb _ _ _ => true
  | .stdw _ _ _ => true
  | .stxw _ _ _ => true
  | .stxh _ _ _ => true
  | .stxb _ _ _ => true
  | .stxdw _ _ _ => true
  | .atomicAdd32 _ _ _ => true
  | .atomicFetchAdd32 _ src _ => src.isWritable
  | .atomicOr32 _ _ _ => true
  | .atomicFetchOr32 _ src _ => src.isWritable
  | .atomicAnd32 _ _ _ => true
  | .atomicFetchAnd32 _ src _ => src.isWritable
  | .atomicXor32 _ _ _ => true
  | .atomicFetchXor32 _ src _ => src.isWritable
  | .atomicAdd64 _ _ _ => true
  | .atomicFetchAdd64 _ src _ => src.isWritable
  | .atomicOr64 _ _ _ => true
  | .atomicFetchOr64 _ src _ => src.isWritable
  | .atomicAnd64 _ _ _ => true
  | .atomicFetchAnd64 _ src _ => src.isWritable
  | .atomicXor64 _ _ _ => true
  | .atomicFetchXor64 _ src _ => src.isWritable
  | .atomicXchg32 _ src _ => src.isWritable
  | .atomicXchg64 _ src _ => src.isWritable
  | .atomicCmpxchg32 _ _ _ => true
  | .atomicCmpxchg64 _ _ _ => true
  | .lddw dst _ _ => dst.isWritable
  | .ldMapFd dst _ => dst.isWritable
  | .ldMapFdVal dst _ _ => dst.isWritable
  | .ldVarAddr dst _ => dst.isWritable
  | .ldCodeAddr dst _ => dst.isWritable
  | .ldMapIdx dst _ => dst.isWritable
  | .ldMapIdxVal dst _ _ => dst.isWritable
  | .ldabsw _ => true
  | .ldabsh _ => true
  | .ldabsb _ => true
  | .ldindw _ _ => true
  | .ldindh _ _ => true
  | .ldindb _ _ => true

end Sys2Proof
end

