-- ==== Sys2Proof/Decode.lean ====
section
/-! DEFINITION. Decode.lean: from the bytes of a slot to an instruction or a named reason why there is none
(30_encoding.md), total on any bytes; after it the encoder, and the conformance group of each instruction.

The decoder follows the layout of the opcode byte: first the class (R98), then code and source bit or mode and size
(R99), then the sub-selectors (R114); every field a row does not use must be zero (R109). -/

namespace Sys2Proof

/-! ## Slots, words and fields -/

/-- The fields of a basic instruction (R91). -/
structure Fields where
  opcode : BitVec 8
  dst    : BitVec 4
  src    : BitVec 4
  offset : BitVec 16
  imm    : BitVec 32
deriving DecidableEq, Repr

/-- The fields of the canonical word: opcode 7:0, dst_reg 11:8, src_reg 15:12, offset 31:16, imm 63:32 (R91). -/
def fieldsOf (w : BitVec 64) : Fields where
  opcode := w.extractLsb' 0 8
  dst    := w.extractLsb' 8 4
  src    := w.extractLsb' 12 4
  offset := w.extractLsb' 16 16
  imm    := w.extractLsb' 32 32

/-- The canonical word of given fields (R91). -/
def Fields.word (f : Fields) : BitVec 64 := f.imm ++ f.offset ++ f.src ++ f.dst ++ f.opcode

/-- The canonical word of a slot's eight bytes: on a little-endian host the halves of `regs` are src, dst and the
multi-byte fields have their low byte first; on a big-endian host both are the other way round (R92, R93). -/
def Slot.word (e : Endian) (s : Slot) : BitVec 64 :=
  match e with
  | .little => s.b7 ++ s.b6 ++ s.b5 ++ s.b4 ++ s.b3 ++ s.b2 ++ s.b1 ++ s.b0
  | .big =>
    s.b4 ++ s.b5 ++ s.b6 ++ s.b7 ++ s.b2 ++ s.b3 ++ s.b1.extractLsb' 0 4 ++ s.b1.extractLsb' 4 4 ++ s.b0

/-- The eight bytes that hold a canonical word on a host (R92, R93). -/
def Slot.ofWord (e : Endian) (w : BitVec 64) : Slot :=
  match e with
  | .little =>
    ⟨w.extractLsb' 0 8, w.extractLsb' 8 8, w.extractLsb' 16 8, w.extractLsb' 24 8,
      w.extractLsb' 32 8, w.extractLsb' 40 8, w.extractLsb' 48 8, w.extractLsb' 56 8⟩
  | .big =>
    ⟨w.extractLsb' 0 8, w.extractLsb' 8 4 ++ w.extractLsb' 12 4, w.extractLsb' 24 8, w.extractLsb' 16 8,
      w.extractLsb' 56 8, w.extractLsb' 48 8, w.extractLsb' 40 8, w.extractLsb' 32 8⟩

/-- The opcode byte is the first byte of a slot on either host (R93). -/
def Slot.opcode (s : Slot) : Byte := s.b0

/-- A slot's bytes in increasing address. -/
def Slot.bytes (s : Slot) : List Byte := [s.b0, s.b1, s.b2, s.b3, s.b4, s.b5, s.b6, s.b7]

/-- Opcode 0x18, `{IMM, DW, LD}`, is the one wide opcode (R96). -/
def wideOpcode : Byte := 0x18

/-! ## Register fields -/

/-- The number of a register (R26). -/
def Reg.code : Reg → BitVec 4
  | .r0 => 0 | .r1 => 1 | .r2 => 2 | .r3 => 3 | .r4 => 4 | .r5 => 5
  | .r6 => 6 | .r7 => 7 | .r8 => 8 | .r9 => 9 | .r10 => 10

/-- The register of a number; 11 to 15 name none (R26, R119). -/
def regOf (n : BitVec 4) : Option Reg :=
  match n.toNat with
  | 0 => some .r0 | 1 => some .r1 | 2 => some .r2 | 3 => some .r3 | 4 => some .r4 | 5 => some .r5
  | 6 => some .r6 | 7 => some .r7 | 8 => some .r8 | 9 => some .r9 | 10 => some .r10
  | _ => none

/-- A register field that is only read: 0 to 10 (R119). -/
def readable (n : BitVec 4) (k : Reg → Except Illegal Instr) : Except Illegal Instr :=
  match regOf n with
  | some r => k r
  | none => .error .badRegister

/-- A register field that is written: 0 to 9 (R28, R119). -/
def writable (n : BitVec 4) (k : Reg → Except Illegal Instr) : Except Illegal Instr :=
  match regOf n with
  | some r => if r.isWritable then k r else .error .writesR10
  | none => .error .badRegister

/-! ## The opcode byte -/

/-- `class = opcode[2:0]` (R97). -/
def Fields.cls (f : Fields) : Nat := (f.opcode.extractLsb' 0 3).toNat

/-- `code = opcode[7:4]` of the arithmetic and jump classes (R100). -/
def Fields.code (f : Fields) : Nat := (f.opcode.extractLsb' 4 4).toNat

/-- `s = opcode[3]`: the source operand is a register (`X`), not `imm` (`K`) (R101). -/
def Fields.isX (f : Fields) : Bool := (f.opcode.extractLsb' 3 1).toNat == 1

/-- `mode = opcode[7:5]` of the load and store classes (R104). -/
def Fields.mode (f : Fields) : Nat := (f.opcode.extractLsb' 5 3).toNat

/-- `sz = opcode[4:3]` of the load and store classes: 0 `W`, 1 `H`, 2 `B`, 3 `DW` (R104, R106). -/
def Fields.sz (f : Fields) : Nat := (f.opcode.extractLsb' 3 2).toNat

/-! ## Forms: which fields a format uses, and that the others are zero (R109, R120) -/

/-- A two-operand arithmetic instruction of either source: `K` uses `imm` and no `src_reg`, `X` uses `src_reg` and no
`imm` (R132). -/
def srcForm (f : Fields) (k : Reg → BitVec 32 → Instr) (x : Reg → Reg → Instr) : Except Illegal Instr :=
  if f.isX then
    if f.imm ≠ 0 then .error .unusedField else writable f.dst fun d => readable f.src fun s => .ok (x d s)
  else
    if f.src ≠ 0 then .error .unusedField else writable f.dst fun d => .ok (k d f.imm)

/-- An arithmetic instruction whose `offset` is zero (R102). -/
def aluForm (f : Fields) (k : Reg → BitVec 32 → Instr) (x : Reg → Reg → Instr) : Except Illegal Instr :=
  if f.offset ≠ 0 then .error .unusedField else srcForm f k x

/-- `DIV`/`SDIV` and `MOD`/`SMOD`: `offset` 0 is the unsigned operation and 1 the signed one (R102, R114). -/
def divForm (f : Fields) (k : Reg → BitVec 32 → Instr) (x : Reg → Reg → Instr)
    (sk : Reg → BitVec 32 → Instr) (sx : Reg → Reg → Instr) : Except Illegal Instr :=
  if f.offset = 0 then srcForm f k x
  else if f.offset = 1 then srcForm f sk sx
  else .error .badSelector

/-- `NEG`: source `K` only, no other operand (R138). -/
def negForm (f : Fields) (mk : Reg → Instr) : Except Illegal Instr :=
  if f.isX then .error .unknownOpcode
  else if f.src ≠ 0 ∨ f.offset ≠ 0 ∨ f.imm ≠ 0 then .error .unusedField
  else writable f.dst fun d => .ok (mk d)

/-- A register-to-register move of the `X` source: `MOVSX` of one width (R137). -/
def moveForm (f : Fields) (x : Reg → Reg → Instr) : Except Illegal Instr :=
  if f.imm ≠ 0 then .error .unusedField else writable f.dst fun d => readable f.src fun s => .ok (x d s)

/-- A byte swap: `imm` is the width 16, 32 or 64 (R112, R213). -/
def endForm (f : Fields) (m16 m32 m64 : Reg → Instr) : Except Illegal Instr :=
  if f.src ≠ 0 ∨ f.offset ≠ 0 then .error .unusedField
  else if f.imm = 16 then writable f.dst fun d => .ok (m16 d)
  else if f.imm = 32 then writable f.dst fun d => .ok (m32 d)
  else if f.imm = 64 then writable f.dst fun d => .ok (m64 d)
  else .error .badSelector

/-- A conditional jump of either source (R231, R120 (b)). -/
def jccForm (f : Fields) (k : Reg → BitVec 32 → BitVec 16 → Instr) (x : Reg → Reg → BitVec 16 → Instr) :
    Except Illegal Instr :=
  if f.isX then
    if f.imm ≠ 0 then .error .unusedField
    else readable f.dst fun d => readable f.src fun s => .ok (x d s f.offset)
  else
    if f.src ≠ 0 then .error .unusedField else readable f.dst fun d => .ok (k d f.imm f.offset)

/-- A load: `dst_reg` is written, `src_reg` is the base, `imm` is unused (R306). -/
def ldxForm (f : Fields) (mk : Reg → Reg → BitVec 16 → Instr) : Except Illegal Instr :=
  if f.imm ≠ 0 then .error .unusedField
  else writable f.dst fun d => readable f.src fun s => .ok (mk d s f.offset)

/-- A store of an immediate: `dst_reg` is the base, `src_reg` is unused (R306). -/
def stForm (f : Fields) (mk : Reg → BitVec 16 → BitVec 32 → Instr) : Except Illegal Instr :=
  if f.src ≠ 0 then .error .unusedField else readable f.dst fun d => .ok (mk d f.offset f.imm)

/-- A store of a register: `dst_reg` is the base, `imm` is unused (R306). -/
def stxForm (f : Fields) (mk : Reg → Reg → BitVec 16 → Instr) : Except Illegal Instr :=
  if f.imm ≠ 0 then .error .unusedField
  else readable f.dst fun d => readable f.src fun s => .ok (mk d s f.offset)

/-- An atomic that does not write `src_reg` (R331, R336). -/
def atomicForm (f : Fields) (mk : Reg → Reg → BitVec 16 → Instr) : Except Illegal Instr :=
  readable f.dst fun d => readable f.src fun s => .ok (mk d s f.offset)

/-- An atomic that writes the old value to `src_reg`, which must then not be `R10` (R334). -/
def fetchForm (f : Fields) (mk : Reg → Reg → BitVec 16 → Instr) : Except Illegal Instr :=
  readable f.dst fun d => writable f.src fun s => .ok (mk d s f.offset)

/-- A legacy packet load at an absolute place: only `imm` is used (R376). -/
def absForm (f : Fields) (mk : BitVec 32 → Instr) : Except Illegal Instr :=
  if f.dst ≠ 0 ∨ f.src ≠ 0 ∨ f.offset ≠ 0 then .error .unusedField else .ok (mk f.imm)

/-- A legacy packet load at an indirect place: `src_reg` and `imm` are used (R376). -/
def indForm (f : Fields) (mk : Reg → BitVec 32 → Instr) : Except Illegal Instr :=
  if f.dst ≠ 0 ∨ f.offset ≠ 0 then .error .unusedField else readable f.src fun s => .ok (mk s f.imm)

/-- A 64-bit immediate form that uses `next_imm` (R362). -/
def imm64Form (f : Fields) (next : BitVec 32) (mk : Reg → BitVec 32 → BitVec 32 → Instr) : Except Illegal Instr :=
  if f.offset ≠ 0 then .error .unusedField else writable f.dst fun d => .ok (mk d f.imm next)

/-- A 64-bit immediate form whose `next_imm` must be zero (R362). -/
def imm32Form (f : Fields) (next : BitVec 32) (mk : Reg → BitVec 32 → Instr) : Except Illegal Instr :=
  if f.offset ≠ 0 ∨ next ≠ 0 then .error .unusedField else writable f.dst fun d => .ok (mk d f.imm)

/-! ## The classes -/

/-- Class `ALU`, 32-bit arithmetic (R102, R110, R112). -/
def decodeAlu32 (f : Fields) : Except Illegal Instr :=
  match f.code with
  | 0x0 => aluForm f .add32Imm .add32Reg
  | 0x1 => aluForm f .sub32Imm .sub32Reg
  | 0x2 => aluForm f .mul32Imm .mul32Reg
  | 0x3 => divForm f .div32Imm .div32Reg .sdiv32Imm .sdiv32Reg
  | 0x4 => aluForm f .or32Imm .or32Reg
  | 0x5 => aluForm f .and32Imm .and32Reg
  | 0x6 => aluForm f .lsh32Imm .lsh32Reg
  | 0x7 => aluForm f .rsh32Imm .rsh32Reg
  | 0x8 => negForm f .neg32
  | 0x9 => divForm f .mod32Imm .mod32Reg .smod32Imm .smod32Reg
  | 0xa => aluForm f .xor32Imm .xor32Reg
  | 0xb =>
    if f.offset = 0 then srcForm f .mov32Imm .mov32Reg
    else if f.isX = false then .error .unusedField
    else if f.offset = 8 then moveForm f .movsx32From8
    else if f.offset = 16 then moveForm f .movsx32From16
    else .error .badSelector
  | 0xc => aluForm f .arsh32Imm .arsh32Reg
  | 0xd =>
    if f.isX then endForm f .be16 .be32 .be64 else endForm f .le16 .le32 .le64
  | _ => .error .unknownOpcode

/-- Class `ALU64`, 64-bit arithmetic (R102, R110, R112). -/
def decodeAlu64 (f : Fields) : Except Illegal Instr :=
  match f.code with
  | 0x0 => aluForm f .add64Imm .add64Reg
  | 0x1 => aluForm f .sub64Imm .sub64Reg
  | 0x2 => aluForm f .mul64Imm .mul64Reg
  | 0x3 => divForm f .div64Imm .div64Reg .sdiv64Imm .sdiv64Reg
  | 0x4 => aluForm f .or64Imm .or64Reg
  | 0x5 => aluForm f .and64Imm .and64Reg
  | 0x6 => aluForm f .lsh64Imm .lsh64Reg
  | 0x7 => aluForm f .rsh64Imm .rsh64Reg
  | 0x8 => negForm f .neg64
  | 0x9 => divForm f .mod64Imm .mod64Reg .smod64Imm .smod64Reg
  | 0xa => aluForm f .xor64Imm .xor64Reg
  | 0xb =>
    if f.offset = 0 then srcForm f .mov64Imm .mov64Reg
    else if f.isX = false then .error .unusedField
    else if f.offset = 8 then moveForm f .movsx64From8
    else if f.offset = 16 then moveForm f .movsx64From16
    else if f.offset = 32 then moveForm f .movsx64From32
    else .error .badSelector
  | 0xc => aluForm f .arsh64Imm .arsh64Reg
  | 0xd =>
    if f.isX then .error .unknownOpcode else endForm f .bswap16 .bswap32 .bswap64
  | _ => .error .unknownOpcode

/-- Class `JMP` (R103, R111). -/
def decodeJmp64 (f : Fields) : Except Illegal Instr :=
  match f.code with
  | 0x0 =>
    if f.isX then .error .unknownOpcode
    else if f.dst ≠ 0 ∨ f.src ≠ 0 ∨ f.imm ≠ 0 then .error .unusedField
    else .ok (.ja f.offset)
  | 0x1 => jccForm f .jeq64Imm .jeq64Reg
  | 0x2 => jccForm f .jgt64Imm .jgt64Reg
  | 0x3 => jccForm f .jge64Imm .jge64Reg
  | 0x4 => jccForm f .jset64Imm .jset64Reg
  | 0x5 => jccForm f .jne64Imm .jne64Reg
  | 0x6 => jccForm f .jsgt64Imm .jsgt64Reg
  | 0x7 => jccForm f .jsge64Imm .jsge64Reg
  | 0x8 =>
    if f.isX then .error .unknownOpcode
    else if f.dst ≠ 0 then .error .unusedField
    else if f.src = 0 then if f.offset ≠ 0 then .error .unusedField else .ok (.callHelper f.imm)
    else if f.src = 1 then if f.offset ≠ 0 then .error .unusedField else .ok (.callLocal f.imm)
    else if f.src = 2 then .ok (.callBtf f.offset f.imm)
    else .error .badSelector
  | 0x9 =>
    if f.isX then .error .unknownOpcode
    else if f.dst ≠ 0 ∨ f.src ≠ 0 ∨ f.offset ≠ 0 ∨ f.imm ≠ 0 then .error .unusedField
    else .ok .exit
  | 0xa => jccForm f .jlt64Imm .jlt64Reg
  | 0xb => jccForm f .jle64Imm .jle64Reg
  | 0xc => jccForm f .jslt64Imm .jslt64Reg
  | 0xd => jccForm f .jsle64Imm .jsle64Reg
  | _ => .error .unknownOpcode

/-- Class `JMP32` (R103, R111). -/
def decodeJmp32 (f : Fields) : Except Illegal Instr :=
  match f.code with
  | 0x0 =>
    if f.isX then .error .unknownOpcode
    else if f.dst ≠ 0 ∨ f.src ≠ 0 ∨ f.offset ≠ 0 then .error .unusedField
    else .ok (.ja32 f.imm)
  | 0x1 => jccForm f .jeq32Imm .jeq32Reg
  | 0x2 => jccForm f .jgt32Imm .jgt32Reg
  | 0x3 => jccForm f .jge32Imm .jge32Reg
  | 0x4 => jccForm f .jset32Imm .jset32Reg
  | 0x5 => jccForm f .jne32Imm .jne32Reg
  | 0x6 => jccForm f .jsgt32Imm .jsgt32Reg
  | 0x7 => jccForm f .jsge32Imm .jsge32Reg
  | 0xa => jccForm f .jlt32Imm .jlt32Reg
  | 0xb => jccForm f .jle32Imm .jle32Reg
  | 0xc => jccForm f .jslt32Imm .jslt32Reg
  | 0xd => jccForm f .jsle32Imm .jsle32Reg
  | _ => .error .unknownOpcode

/-- Class `LDX`: regular loads (mode 3) and sign-extension loads (mode 4, no `DW`) (R113). -/
def decodeLdx (f : Fields) : Except Illegal Instr :=
  match f.mode, f.sz with
  | 3, 0 => ldxForm f .ldxw
  | 3, 1 => ldxForm f .ldxh
  | 3, 2 => ldxForm f .ldxb
  | 3, 3 => ldxForm f .ldxdw
  | 4, 0 => ldxForm f .ldxsw
  | 4, 1 => ldxForm f .ldxsh
  | 4, 2 => ldxForm f .ldxsb
  | _, _ => .error .unknownOpcode

/-- Class `ST`: stores of an immediate (mode 3) (R113). -/
def decodeSt (f : Fields) : Except Illegal Instr :=
  match f.mode, f.sz with
  | 3, 0 => stForm f .stw
  | 3, 1 => stForm f .sth
  | 3, 2 => stForm f .stb
  | 3, 3 => stForm f .stdw
  | _, _ => .error .unknownOpcode

/-- `{ATOMIC, W, STX}`: `imm` selects the operation (R113, R331, R332). -/
def decodeAtomic32 (f : Fields) : Except Illegal Instr :=
  match f.imm.toNat with
  | 0x00 => atomicForm f .atomicAdd32
  | 0x01 => fetchForm f .atomicFetchAdd32
  | 0x40 => atomicForm f .atomicOr32
  | 0x41 => fetchForm f .atomicFetchOr32
  | 0x50 => atomicForm f .atomicAnd32
  | 0x51 => fetchForm f .atomicFetchAnd32
  | 0xa0 => atomicForm f .atomicXor32
  | 0xa1 => fetchForm f .atomicFetchXor32
  | 0xe1 => fetchForm f .atomicXchg32
  | 0xf1 => atomicForm f .atomicCmpxchg32
  | _ => .error .badSelector

/-- `{ATOMIC, DW, STX}`: `imm` selects the operation (R113, R331, R332). -/
def decodeAtomic64 (f : Fields) : Except Illegal Instr :=
  match f.imm.toNat with
  | 0x00 => atomicForm f .atomicAdd64
  | 0x01 => fetchForm f .atomicFetchAdd64
  | 0x40 => atomicForm f .atomicOr64
  | 0x41 => fetchForm f .atomicFetchOr64
  | 0x50 => atomicForm f .atomicAnd64
  | 0x51 => fetchForm f .atomicFetchAnd64
  | 0xa0 => atomicForm f .atomicXor64
  | 0xa1 => fetchForm f .atomicFetchXor64
  | 0xe1 => fetchForm f .atomicXchg64
  | 0xf1 => atomicForm f .atomicCmpxchg64
  | _ => .error .badSelector

/-- Class `STX`: stores of a register (mode 3) and atomics (mode 6, `W` and `DW` only) (R113). -/
def decodeStx (f : Fields) : Except Illegal Instr :=
  match f.mode, f.sz with
  | 3, 0 => stxForm f .stxw
  | 3, 1 => stxForm f .stxh
  | 3, 2 => stxForm f .stxb
  | 3, 3 => stxForm f .stxdw
  | 6, 0 => decodeAtomic32 f
  | 6, 3 => decodeAtomic64 f
  | _, _ => .error .unknownOpcode

/-- `{IMM, DW, LD}`: the second slot must be there, with its low 32 bits zero; `src_reg` selects the form
(R95, R96, R360, R362). -/
def decodeWide (f : Fields) (second : Option (BitVec 64)) : Except Illegal Instr :=
  match second with
  | none => .error .missingSecondSlot
  | some w2 =>
    if w2.extractLsb' 0 32 ≠ 0 then .error .badSecondSlot
    else
      match f.src.toNat with
      | 0 => imm64Form f (w2.extractLsb' 32 32) .lddw
      | 1 => imm32Form f (w2.extractLsb' 32 32) .ldMapFd
      | 2 => imm64Form f (w2.extractLsb' 32 32) .ldMapFdVal
      | 3 => imm32Form f (w2.extractLsb' 32 32) .ldVarAddr
      | 4 => imm32Form f (w2.extractLsb' 32 32) .ldCodeAddr
      | 5 => imm32Form f (w2.extractLsb' 32 32) .ldMapIdx
      | 6 => imm64Form f (w2.extractLsb' 32 32) .ldMapIdxVal
      | _ => .error .badSelector

/-- Class `LD`: 64-bit immediates (mode 0, `DW`) and the legacy packet loads (modes 1 and 2, no `DW`) (R113). -/
def decodeLd (f : Fields) (second : Option (BitVec 64)) : Except Illegal Instr :=
  match f.mode, f.sz with
  | 0, 3 => decodeWide f second
  | 1, 0 => absForm f .ldabsw
  | 1, 1 => absForm f .ldabsh
  | 1, 2 => absForm f .ldabsb
  | 2, 0 => indForm f .ldindw
  | 2, 1 => indForm f .ldindh
  | 2, 2 => indForm f .ldindb
  | _, _ => .error .unknownOpcode

/-- The row that the fields of a slot (and the word of the slot after it) meet, or why none does (R118, R120). -/
def decodeFields (f : Fields) (second : Option (BitVec 64)) : Except Illegal Instr :=
  match f.cls with
  | 0 => decodeLd f second
  | 1 => decodeLdx f
  | 2 => decodeSt f
  | 3 => decodeStx f
  | 4 => decodeAlu32 f
  | 5 => decodeJmp64 f
  | 6 => decodeJmp32 f
  | _ => decodeAlu64 f

/-- Decoding canonical words (R118 (1) to (4) and the register checks of R119). -/
def decodeWords (w : BitVec 64) (second : Option (BitVec 64)) : Except Illegal Instr :=
  decodeFields (fieldsOf w) second

/-- Decoding the bytes of a slot and of the one after it, as the host's byte order reads them (R57, R93, R118). -/
def decodeSlots (e : Endian) (s : Slot) (second : Option Slot) : Except Illegal Instr :=
  decodeWords (s.word e) (second.map (Slot.word e))

/-! ## Conformance groups -/

/-- The conformance group of each row: the `group` field of spec/opcode_table.json (R5). -/
def Instr.group : Instr → Group
  | .add32Imm _ _ => .base32
  | .add32Reg _ _ => .base32
  | .add64Imm _ _ => .base64
  | .add64Reg _ _ => .base64
  | .sub32Imm _ _ => .base32
  | .sub32Reg _ _ => .base32
  | .sub64Imm _ _ => .base64
  | .sub64Reg _ _ => .base64
  | .mul32Imm _ _ => .divmul32
  | .mul32Reg _ _ => .divmul32
  | .mul64Imm _ _ => .divmul64
  | .mul64Reg _ _ => .divmul64
  | .div32Imm _ _ => .divmul32
  | .div32Reg _ _ => .divmul32
  | .div64Imm _ _ => .divmul64
  | .div64Reg _ _ => .divmul64
  | .sdiv32Imm _ _ => .divmul32
  | .sdiv32Reg _ _ => .divmul32
  | .sdiv64Imm _ _ => .divmul64
  | .sdiv64Reg _ _ => .divmul64
  | .or32Imm _ _ => .base32
  | .or32Reg _ _ => .base32
  | .or64Imm _ _ => .base64
  | .or64Reg _ _ => .base64
  | .and32Imm _ _ => .base32
  | .and32Reg _ _ => .base32
  | .and64Imm _ _ => .base64
  | .and64Reg _ _ => .base64
  | .lsh32Imm _ _ => .base32
  | .lsh32Reg _ _ => .base32
  | .lsh64Imm _ _ => .base64
  | .lsh64Reg _ _ => .base64
  | .rsh32Imm _ _ => .base32
  | .rsh32Reg _ _ => .base32
  | .rsh64Imm _ _ => .base64
  | .rsh64Reg _ _ => .base64
  | .mod32Imm _ _ => .divmul32
  | .mod32Reg _ _ => .divmul32
  | .mod64Imm _ _ => .divmul64
  | .mod64Reg _ _ => .divmul64
  | .smod32Imm _ _ => .divmul32
  | .smod32Reg _ _ => .divmul32
  | .smod64Imm _ _ => .divmul64
  | .smod64Reg _ _ => .divmul64
  | .xor32Imm _ _ => .base32
  | .xor32Reg _ _ => .base32
  | .xor64Imm _ _ => .base64
  | .xor64Reg _ _ => .base64
  | .mov32Imm _ _ => .base32
  | .mov32Reg _ _ => .base32
  | .mov64Imm _ _ => .base64
  | .mov64Reg _ _ => .base64
  | .arsh32Imm _ _ => .base32
  | .arsh32Reg _ _ => .base32
  | .arsh64Imm _ _ => .base64
  | .arsh64Reg _ _ => .base64
  | .neg32 _ => .base32
  | .neg64 _ => .base64
  | .movsx32From8 _ _ => .base32
  | .movsx32From16 _ _ => .base32
  | .movsx64From8 _ _ => .base64
  | .movsx64From16 _ _ => .base64
  | .movsx64From32 _ _ => .base64
  | .le16 _ => .base32
  | .le32 _ => .base32
  | .le64 _ => .base64
  | .be16 _ => .base32
  | .be32 _ => .base32
  | .be64 _ => .base64
  | .bswap16 _ => .base32
  | .bswap32 _ => .base32
  | .bswap64 _ => .base64
  | .ja _ => .base32
  | .ja32 _ => .base32
  | .jeq64Imm _ _ _ => .base64
  | .jeq64Reg _ _ _ => .base64
  | .jeq32Imm _ _ _ => .base32
  | .jeq32Reg _ _ _ => .base32
  | .jgt64Imm _ _ _ => .base64
  | .jgt64Reg _ _ _ => .base64
  | .jgt32Imm _ _ _ => .base32
  | .jgt32Reg _ _ _ => .base32
  | .jge64Imm _ _ _ => .base64
  | .jge64Reg _ _ _ => .base64
  | .jge32Imm _ _ _ => .base32
  | .jge32Reg _ _ _ => .base32
  | .jset64Imm _ _ _ => .base64
  | .jset64Reg _ _ _ => .base64
  | .jset32Imm _ _ _ => .base32
  | .jset32Reg _ _ _ => .base32
  | .jne64Imm _ _ _ => .base64
  | .jne64Reg _ _ _ => .base64
  | .jne32Imm _ _ _ => .base32
  | .jne32Reg _ _ _ => .base32
  | .jsgt64Imm _ _ _ => .base64
  | .jsgt64Reg _ _ _ => .base64
  | .jsgt32Imm _ _ _ => .base32
  | .jsgt32Reg _ _ _ => .base32
  | .jsge64Imm _ _ _ => .base64
  | .jsge64Reg _ _ _ => .base64
  | .jsge32Imm _ _ _ => .base32
  | .jsge32Reg _ _ _ => .base32
  | .jlt64Imm _ _ _ => .base64
  | .jlt64Reg _ _ _ => .base64
  | .jlt32Imm _ _ _ => .base32
  | .jlt32Reg _ _ _ => .base32
  | .jle64Imm _ _ _ => .base64
  | .jle64Reg _ _ _ => .base64
  | .jle32Imm _ _ _ => .base32
  | .jle32Reg _ _ _ => .base32
  | .jslt64Imm _ _ _ => .base64
  | .jslt64Reg _ _ _ => .base64
  | .jslt32Imm _ _ _ => .base32
  | .jslt32Reg _ _ _ => .base32
  | .jsle64Imm _ _ _ => .base64
  | .jsle64Reg _ _ _ => .base64
  | .jsle32Imm _ _ _ => .base32
  | .jsle32Reg _ _ _ => .base32
  | .callHelper _ => .base32
  | .callLocal _ => .base32
  | .callBtf _ _ => .base32
  | .exit => .base32
  | .ldxw _ _ _ => .base32
  | .ldxh _ _ _ => .base32
  | .ldxb _ _ _ => .base32
  | .ldxdw _ _ _ => .base64
  | .ldxsw _ _ _ => .base32
  | .ldxsh _ _ _ => .base32
  | .ldxsb _ _ _ => .base32
  | .stw _ _ _ => .base32
  | .sth _ _ _ => .base32
  | .stb _ _ _ => .base32
  | .stdw _ _ _ => .base64
  | .stxw _ _ _ => .base32
  | .stxh _ _ _ => .base32
  | .stxb _ _ _ => .base32
  | .stxdw _ _ _ => .base64
  | .atomicAdd32 _ _ _ => .atomic32
  | .atomicFetchAdd32 _ _ _ => .atomic32
  | .atomicOr32 _ _ _ => .atomic32
  | .atomicFetchOr32 _ _ _ => .atomic32
  | .atomicAnd32 _ _ _ => .atomic32
  | .atomicFetchAnd32 _ _ _ => .atomic32
  | .atomicXor32 _ _ _ => .atomic32
  | .atomicFetchXor32 _ _ _ => .atomic32
  | .atomicAdd64 _ _ _ => .atomic64
  | .atomicFetchAdd64 _ _ _ => .atomic64
  | .atomicOr64 _ _ _ => .atomic64
  | .atomicFetchOr64 _ _ _ => .atomic64
  | .atomicAnd64 _ _ _ => .atomic64
  | .atomicFetchAnd64 _ _ _ => .atomic64
  | .atomicXor64 _ _ _ => .atomic64
  | .atomicFetchXor64 _ _ _ => .atomic64
  | .atomicXchg32 _ _ _ => .atomic32
  | .atomicXchg64 _ _ _ => .atomic64
  | .atomicCmpxchg32 _ _ _ => .atomic32
  | .atomicCmpxchg64 _ _ _ => .atomic64
  | .lddw _ _ _ => .base64
  | .ldMapFd _ _ => .base64
  | .ldMapFdVal _ _ _ => .base64
  | .ldVarAddr _ _ => .base64
  | .ldCodeAddr _ _ => .base64
  | .ldMapIdx _ _ => .base64
  | .ldMapIdxVal _ _ _ => .base64
  | .ldabsw _ => .packet
  | .ldabsh _ => .packet
  | .ldabsb _ => .packet
  | .ldindw _ _ => .packet
  | .ldindh _ _ => .packet
  | .ldindb _ _ => .packet

/-- A group is supported when the platform lists it or one that includes it (R121). -/
def supports (gs : List Group) (g : Group) : Bool :=
  gs.contains g ||
    match g with
    | .base32   => gs.contains .base64
    | .atomic32 => gs.contains .atomic64
    | .divmul32 => gs.contains .divmul64
    | _         => false

/-- An instruction of a group the platform does not support is illegal (R118 (5), R121). -/
def groupCheck (gs : List Group) : Except Illegal Instr → Except Illegal Instr
  | .ok i => if supports gs i.group then .ok i else .error .unsupportedGroup
  | .error why => .error why

/-- Decoding for a platform: its byte order and its conformance groups (R118). -/
def decodeFor (p : Platform) (s : Slot) (second : Option Slot) : Except Illegal Instr :=
  groupCheck p.groups (decodeSlots p.endian s second)

/-- The number of slots an instruction takes: 2 for the 64-bit immediates, 1 for every other (R90, R96). -/
def Instr.slots : Instr → Nat
  | .add32Imm _ _ => 1
  | .add32Reg _ _ => 1
  | .add64Imm _ _ => 1
  | .add64Reg _ _ => 1
  | .sub32Imm _ _ => 1
  | .sub32Reg _ _ => 1
  | .sub64Imm _ _ => 1
  | .sub64Reg _ _ => 1
  | .mul32Imm _ _ => 1
  | .mul32Reg _ _ => 1
  | .mul64Imm _ _ => 1
  | .mul64Reg _ _ => 1
  | .div32Imm _ _ => 1
  | .div32Reg _ _ => 1
  | .div64Imm _ _ => 1
  | .div64Reg _ _ => 1
  | .sdiv32Imm _ _ => 1
  | .sdiv32Reg _ _ => 1
  | .sdiv64Imm _ _ => 1
  | .sdiv64Reg _ _ => 1
  | .or32Imm _ _ => 1
  | .or32Reg _ _ => 1
  | .or64Imm _ _ => 1
  | .or64Reg _ _ => 1
  | .and32Imm _ _ => 1
  | .and32Reg _ _ => 1
  | .and64Imm _ _ => 1
  | .and64Reg _ _ => 1
  | .lsh32Imm _ _ => 1
  | .lsh32Reg _ _ => 1
  | .lsh64Imm _ _ => 1
  | .lsh64Reg _ _ => 1
  | .rsh32Imm _ _ => 1
  | .rsh32Reg _ _ => 1
  | .rsh64Imm _ _ => 1
  | .rsh64Reg _ _ => 1
  | .mod32Imm _ _ => 1
  | .mod32Reg _ _ => 1
  | .mod64Imm _ _ => 1
  | .mod64Reg _ _ => 1
  | .smod32Imm _ _ => 1
  | .smod32Reg _ _ => 1
  | .smod64Imm _ _ => 1
  | .smod64Reg _ _ => 1
  | .xor32Imm _ _ => 1
  | .xor32Reg _ _ => 1
  | .xor64Imm _ _ => 1
  | .xor64Reg _ _ => 1
  | .mov32Imm _ _ => 1
  | .mov32Reg _ _ => 1
  | .mov64Imm _ _ => 1
  | .mov64Reg _ _ => 1
  | .arsh32Imm _ _ => 1
  | .arsh32Reg _ _ => 1
  | .arsh64Imm _ _ => 1
  | .arsh64Reg _ _ => 1
  | .neg32 _ => 1
  | .neg64 _ => 1
  | .movsx32From8 _ _ => 1
  | .movsx32From16 _ _ => 1
  | .movsx64From8 _ _ => 1
  | .movsx64From16 _ _ => 1
  | .movsx64From32 _ _ => 1
  | .le16 _ => 1
  | .le32 _ => 1
  | .le64 _ => 1
  | .be16 _ => 1
  | .be32 _ => 1
  | .be64 _ => 1
  | .bswap16 _ => 1
  | .bswap32 _ => 1
  | .bswap64 _ => 1
  | .ja _ => 1
  | .ja32 _ => 1
  | .jeq64Imm _ _ _ => 1
  | .jeq64Reg _ _ _ => 1
  | .jeq32Imm _ _ _ => 1
  | .jeq32Reg _ _ _ => 1
  | .jgt64Imm _ _ _ => 1
  | .jgt64Reg _ _ _ => 1
  | .jgt32Imm _ _ _ => 1
  | .jgt32Reg _ _ _ => 1
  | .jge64Imm _ _ _ => 1
  | .jge64Reg _ _ _ => 1
  | .jge32Imm _ _ _ => 1
  | .jge32Reg _ _ _ => 1
  | .jset64Imm _ _ _ => 1
  | .jset64Reg _ _ _ => 1
  | .jset32Imm _ _ _ => 1
  | .jset32Reg _ _ _ => 1
  | .jne64Imm _ _ _ => 1
  | .jne64Reg _ _ _ => 1
  | .jne32Imm _ _ _ => 1
  | .jne32Reg _ _ _ => 1
  | .jsgt64Imm _ _ _ => 1
  | .jsgt64Reg _ _ _ => 1
  | .jsgt32Imm _ _ _ => 1
  | .jsgt32Reg _ _ _ => 1
  | .jsge64Imm _ _ _ => 1
  | .jsge64Reg _ _ _ => 1
  | .jsge32Imm _ _ _ => 1
  | .jsge32Reg _ _ _ => 1
  | .jlt64Imm _ _ _ => 1
  | .jlt64Reg _ _ _ => 1
  | .jlt32Imm _ _ _ => 1
  | .jlt32Reg _ _ _ => 1
  | .jle64Imm _ _ _ => 1
  | .jle64Reg _ _ _ => 1
  | .jle32Imm _ _ _ => 1
  | .jle32Reg _ _ _ => 1
  | .jslt64Imm _ _ _ => 1
  | .jslt64Reg _ _ _ => 1
  | .jslt32Imm _ _ _ => 1
  | .jslt32Reg _ _ _ => 1
  | .jsle64Imm _ _ _ => 1
  | .jsle64Reg _ _ _ => 1
  | .jsle32Imm _ _ _ => 1
  | .jsle32Reg _ _ _ => 1
  | .callHelper _ => 1
  | .callLocal _ => 1
  | .callBtf _ _ => 1
  | .exit => 1
  | .ldxw _ _ _ => 1
  | .ldxh _ _ _ => 1
  | .ldxb _ _ _ => 1
  | .ldxdw _ _ _ => 1
  | .ldxsw _ _ _ => 1
  | .ldxsh _ _ _ => 1
  | .ldxsb _ _ _ => 1
  | .stw _ _ _ => 1
  | .sth _ _ _ => 1
  | .stb _ _ _ => 1
  | .stdw _ _ _ => 1
  | .stxw _ _ _ => 1
  | .stxh _ _ _ => 1
  | .stxb _ _ _ => 1
  | .stxdw _ _ _ => 1
  | .atomicAdd32 _ _ _ => 1
  | .atomicFetchAdd32 _ _ _ => 1
  | .atomicOr32 _ _ _ => 1
  | .atomicFetchOr32 _ _ _ => 1
  | .atomicAnd32 _ _ _ => 1
  | .atomicFetchAnd32 _ _ _ => 1
  | .atomicXor32 _ _ _ => 1
  | .atomicFetchXor32 _ _ _ => 1
  | .atomicAdd64 _ _ _ => 1
  | .atomicFetchAdd64 _ _ _ => 1
  | .atomicOr64 _ _ _ => 1
  | .atomicFetchOr64 _ _ _ => 1
  | .atomicAnd64 _ _ _ => 1
  | .atomicFetchAnd64 _ _ _ => 1
  | .atomicXor64 _ _ _ => 1
  | .atomicFetchXor64 _ _ _ => 1
  | .atomicXchg32 _ _ _ => 1
  | .atomicXchg64 _ _ _ => 1
  | .atomicCmpxchg32 _ _ _ => 1
  | .atomicCmpxchg64 _ _ _ => 1
  | .lddw _ _ _ => 2
  | .ldMapFd _ _ => 2
  | .ldMapFdVal _ _ _ => 2
  | .ldVarAddr _ _ => 2
  | .ldCodeAddr _ _ => 2
  | .ldMapIdx _ _ => 2
  | .ldMapIdxVal _ _ _ => 2
  | .ldabsw _ => 1
  | .ldabsh _ => 1
  | .ldabsb _ => 1
  | .ldindw _ _ => 1
  | .ldindh _ _ => 1
  | .ldindb _ _ => 1

/-! ## Decoding a list of bytes -/

/-- The first eight bytes as a slot, and the rest. -/
def takeSlot : List Byte → Option (Slot × List Byte)
  | b0 :: b1 :: b2 :: b3 :: b4 :: b5 :: b6 :: b7 :: rest => some (⟨b0, b1, b2, b3, b4, b5, b6, b7⟩, rest)
  | _ => none

/-- The instruction at the front of a list of bytes and the bytes after it, or why there is none (R93, R96, R118). -/
def decodeBytes (e : Endian) (bs : List Byte) : Except Illegal (Instr × List Byte) :=
  match takeSlot bs with
  | none => .error .truncated
  | some (s, rest) =>
    match decodeSlots e s ((takeSlot rest).map Prod.fst) with
    | .error why => .error why
    | .ok i => if i.slots = 2 then .ok (i, rest.drop 8) else .ok (i, rest)

/-! ## The encoder -/

/-- The canonical words of an instruction: the first slot, and the second of a wide instruction (R91, R95, R110 to R114). -/
def encode : Instr → BitVec 64 × Option (BitVec 64)
  | .add32Imm dst imm => (Fields.word ⟨0x04, dst.code, 0, 0, imm⟩, none)
  | .add32Reg dst src => (Fields.word ⟨0x0c, dst.code, src.code, 0, 0⟩, none)
  | .add64Imm dst imm => (Fields.word ⟨0x07, dst.code, 0, 0, imm⟩, none)
  | .add64Reg dst src => (Fields.word ⟨0x0f, dst.code, src.code, 0, 0⟩, none)
  | .sub32Imm dst imm => (Fields.word ⟨0x14, dst.code, 0, 0, imm⟩, none)
  | .sub32Reg dst src => (Fields.word ⟨0x1c, dst.code, src.code, 0, 0⟩, none)
  | .sub64Imm dst imm => (Fields.word ⟨0x17, dst.code, 0, 0, imm⟩, none)
  | .sub64Reg dst src => (Fields.word ⟨0x1f, dst.code, src.code, 0, 0⟩, none)
  | .mul32Imm dst imm => (Fields.word ⟨0x24, dst.code, 0, 0, imm⟩, none)
  | .mul32Reg dst src => (Fields.word ⟨0x2c, dst.code, src.code, 0, 0⟩, none)
  | .mul64Imm dst imm => (Fields.word ⟨0x27, dst.code, 0, 0, imm⟩, none)
  | .mul64Reg dst src => (Fields.word ⟨0x2f, dst.code, src.code, 0, 0⟩, none)
  | .div32Imm dst imm => (Fields.word ⟨0x34, dst.code, 0, 0, imm⟩, none)
  | .div32Reg dst src => (Fields.word ⟨0x3c, dst.code, src.code, 0, 0⟩, none)
  | .div64Imm dst imm => (Fields.word ⟨0x37, dst.code, 0, 0, imm⟩, none)
  | .div64Reg dst src => (Fields.word ⟨0x3f, dst.code, src.code, 0, 0⟩, none)
  | .sdiv32Imm dst imm => (Fields.word ⟨0x34, dst.code, 0, 1, imm⟩, none)
  | .sdiv32Reg dst src => (Fields.word ⟨0x3c, dst.code, src.code, 1, 0⟩, none)
  | .sdiv64Imm dst imm => (Fields.word ⟨0x37, dst.code, 0, 1, imm⟩, none)
  | .sdiv64Reg dst src => (Fields.word ⟨0x3f, dst.code, src.code, 1, 0⟩, none)
  | .or32Imm dst imm => (Fields.word ⟨0x44, dst.code, 0, 0, imm⟩, none)
  | .or32Reg dst src => (Fields.word ⟨0x4c, dst.code, src.code, 0, 0⟩, none)
  | .or64Imm dst imm => (Fields.word ⟨0x47, dst.code, 0, 0, imm⟩, none)
  | .or64Reg dst src => (Fields.word ⟨0x4f, dst.code, src.code, 0, 0⟩, none)
  | .and32Imm dst imm => (Fields.word ⟨0x54, dst.code, 0, 0, imm⟩, none)
  | .and32Reg dst src => (Fields.word ⟨0x5c, dst.code, src.code, 0, 0⟩, none)
  | .and64Imm dst imm => (Fields.word ⟨0x57, dst.code, 0, 0, imm⟩, none)
  | .and64Reg dst src => (Fields.word ⟨0x5f, dst.code, src.code, 0, 0⟩, none)
  | .lsh32Imm dst imm => (Fields.word ⟨0x64, dst.code, 0, 0, imm⟩, none)
  | .lsh32Reg dst src => (Fields.word ⟨0x6c, dst.code, src.code, 0, 0⟩, none)
  | .lsh64Imm dst imm => (Fields.word ⟨0x67, dst.code, 0, 0, imm⟩, none)
  | .lsh64Reg dst src => (Fields.word ⟨0x6f, dst.code, src.code, 0, 0⟩, none)
  | .rsh32Imm dst imm => (Fields.word ⟨0x74, dst.code, 0, 0, imm⟩, none)
  | .rsh32Reg dst src => (Fields.word ⟨0x7c, dst.code, src.code, 0, 0⟩, none)
  | .rsh64Imm dst imm => (Fields.word ⟨0x77, dst.code, 0, 0, imm⟩, none)
  | .rsh64Reg dst src => (Fields.word ⟨0x7f, dst.code, src.code, 0, 0⟩, none)
  | .mod32Imm dst imm => (Fields.word ⟨0x94, dst.code, 0, 0, imm⟩, none)
  | .mod32Reg dst src => (Fields.word ⟨0x9c, dst.code, src.code, 0, 0⟩, none)
  | .mod64Imm dst imm => (Fields.word ⟨0x97, dst.code, 0, 0, imm⟩, none)
  | .mod64Reg dst src => (Fields.word ⟨0x9f, dst.code, src.code, 0, 0⟩, none)
  | .smod32Imm dst imm => (Fields.word ⟨0x94, dst.code, 0, 1, imm⟩, none)
  | .smod32Reg dst src => (Fields.word ⟨0x9c, dst.code, src.code, 1, 0⟩, none)
  | .smod64Imm dst imm => (Fields.word ⟨0x97, dst.code, 0, 1, imm⟩, none)
  | .smod64Reg dst src => (Fields.word ⟨0x9f, dst.code, src.code, 1, 0⟩, none)
  | .xor32Imm dst imm => (Fields.word ⟨0xa4, dst.code, 0, 0, imm⟩, none)
  | .xor32Reg dst src => (Fields.word ⟨0xac, dst.code, src.code, 0, 0⟩, none)
  | .xor64Imm dst imm => (Fields.word ⟨0xa7, dst.code, 0, 0, imm⟩, none)
  | .xor64Reg dst src => (Fields.word ⟨0xaf, dst.code, src.code, 0, 0⟩, none)
  | .mov32Imm dst imm => (Fields.word ⟨0xb4, dst.code, 0, 0, imm⟩, none)
  | .mov32Reg dst src => (Fields.word ⟨0xbc, dst.code, src.code, 0, 0⟩, none)
  | .mov64Imm dst imm => (Fields.word ⟨0xb7, dst.code, 0, 0, imm⟩, none)
  | .mov64Reg dst src => (Fields.word ⟨0xbf, dst.code, src.code, 0, 0⟩, none)
  | .arsh32Imm dst imm => (Fields.word ⟨0xc4, dst.code, 0, 0, imm⟩, none)
  | .arsh32Reg dst src => (Fields.word ⟨0xcc, dst.code, src.code, 0, 0⟩, none)
  | .arsh64Imm dst imm => (Fields.word ⟨0xc7, dst.code, 0, 0, imm⟩, none)
  | .arsh64Reg dst src => (Fields.word ⟨0xcf, dst.code, src.code, 0, 0⟩, none)
  | .neg32 dst => (Fields.word ⟨0x84, dst.code, 0, 0, 0⟩, none)
  | .neg64 dst => (Fields.word ⟨0x87, dst.code, 0, 0, 0⟩, none)
  | .movsx32From8 dst src => (Fields.word ⟨0xbc, dst.code, src.code, 8, 0⟩, none)
  | .movsx32From16 dst src => (Fields.word ⟨0xbc, dst.code, src.code, 16, 0⟩, none)
  | .movsx64From8 dst src => (Fields.word ⟨0xbf, dst.code, src.code, 8, 0⟩, none)
  | .movsx64From16 dst src => (Fields.word ⟨0xbf, dst.code, src.code, 16, 0⟩, none)
  | .movsx64From32 dst src => (Fields.word ⟨0xbf, dst.code, src.code, 32, 0⟩, none)
  | .le16 dst => (Fields.word ⟨0xd4, dst.code, 0, 0, 0x10⟩, none)
  | .le32 dst => (Fields.word ⟨0xd4, dst.code, 0, 0, 0x20⟩, none)
  | .le64 dst => (Fields.word ⟨0xd4, dst.code, 0, 0, 0x40⟩, none)
  | .be16 dst => (Fields.word ⟨0xdc, dst.code, 0, 0, 0x10⟩, none)
  | .be32 dst => (Fields.word ⟨0xdc, dst.code, 0, 0, 0x20⟩, none)
  | .be64 dst => (Fields.word ⟨0xdc, dst.code, 0, 0, 0x40⟩, none)
  | .bswap16 dst => (Fields.word ⟨0xd7, dst.code, 0, 0, 0x10⟩, none)
  | .bswap32 dst => (Fields.word ⟨0xd7, dst.code, 0, 0, 0x20⟩, none)
  | .bswap64 dst => (Fields.word ⟨0xd7, dst.code, 0, 0, 0x40⟩, none)
  | .ja offset => (Fields.word ⟨0x05, 0, 0, offset, 0⟩, none)
  | .ja32 imm => (Fields.word ⟨0x06, 0, 0, 0, imm⟩, none)
  | .jeq64Imm dst imm offset => (Fields.word ⟨0x15, dst.code, 0, offset, imm⟩, none)
  | .jeq64Reg dst src offset => (Fields.word ⟨0x1d, dst.code, src.code, offset, 0⟩, none)
  | .jeq32Imm dst imm offset => (Fields.word ⟨0x16, dst.code, 0, offset, imm⟩, none)
  | .jeq32Reg dst src offset => (Fields.word ⟨0x1e, dst.code, src.code, offset, 0⟩, none)
  | .jgt64Imm dst imm offset => (Fields.word ⟨0x25, dst.code, 0, offset, imm⟩, none)
  | .jgt64Reg dst src offset => (Fields.word ⟨0x2d, dst.code, src.code, offset, 0⟩, none)
  | .jgt32Imm dst imm offset => (Fields.word ⟨0x26, dst.code, 0, offset, imm⟩, none)
  | .jgt32Reg dst src offset => (Fields.word ⟨0x2e, dst.code, src.code, offset, 0⟩, none)
  | .jge64Imm dst imm offset => (Fields.word ⟨0x35, dst.code, 0, offset, imm⟩, none)
  | .jge64Reg dst src offset => (Fields.word ⟨0x3d, dst.code, src.code, offset, 0⟩, none)
  | .jge32Imm dst imm offset => (Fields.word ⟨0x36, dst.code, 0, offset, imm⟩, none)
  | .jge32Reg dst src offset => (Fields.word ⟨0x3e, dst.code, src.code, offset, 0⟩, none)
  | .jset64Imm dst imm offset => (Fields.word ⟨0x45, dst.code, 0, offset, imm⟩, none)
  | .jset64Reg dst src offset => (Fields.word ⟨0x4d, dst.code, src.code, offset, 0⟩, none)
  | .jset32Imm dst imm offset => (Fields.word ⟨0x46, dst.code, 0, offset, imm⟩, none)
  | .jset32Reg dst src offset => (Fields.word ⟨0x4e, dst.code, src.code, offset, 0⟩, none)
  | .jne64Imm dst imm offset => (Fields.word ⟨0x55, dst.code, 0, offset, imm⟩, none)
  | .jne64Reg dst src offset => (Fields.word ⟨0x5d, dst.code, src.code, offset, 0⟩, none)
  | .jne32Imm dst imm offset => (Fields.word ⟨0x56, dst.code, 0, offset, imm⟩, none)
  | .jne32Reg dst src offset => (Fields.word ⟨0x5e, dst.code, src.code, offset, 0⟩, none)
  | .jsgt64Imm dst imm offset => (Fields.word ⟨0x65, dst.code, 0, offset, imm⟩, none)
  | .jsgt64Reg dst src offset => (Fields.word ⟨0x6d, dst.code, src.code, offset, 0⟩, none)
  | .jsgt32Imm dst imm offset => (Fields.word ⟨0x66, dst.code, 0, offset, imm⟩, none)
  | .jsgt32Reg dst src offset => (Fields.word ⟨0x6e, dst.code, src.code, offset, 0⟩, none)
  | .jsge64Imm dst imm offset => (Fields.word ⟨0x75, dst.code, 0, offset, imm⟩, none)
  | .jsge64Reg dst src offset => (Fields.word ⟨0x7d, dst.code, src.code, offset, 0⟩, none)
  | .jsge32Imm dst imm offset => (Fields.word ⟨0x76, dst.code, 0, offset, imm⟩, none)
  | .jsge32Reg dst src offset => (Fields.word ⟨0x7e, dst.code, src.code, offset, 0⟩, none)
  | .jlt64Imm dst imm offset => (Fields.word ⟨0xa5, dst.code, 0, offset, imm⟩, none)
  | .jlt64Reg dst src offset => (Fields.word ⟨0xad, dst.code, src.code, offset, 0⟩, none)
  | .jlt32Imm dst imm offset => (Fields.word ⟨0xa6, dst.code, 0, offset, imm⟩, none)
  | .jlt32Reg dst src offset => (Fields.word ⟨0xae, dst.code, src.code, offset, 0⟩, none)
  | .jle64Imm dst imm offset => (Fields.word ⟨0xb5, dst.code, 0, offset, imm⟩, none)
  | .jle64Reg dst src offset => (Fields.word ⟨0xbd, dst.code, src.code, offset, 0⟩, none)
  | .jle32Imm dst imm offset => (Fields.word ⟨0xb6, dst.code, 0, offset, imm⟩, none)
  | .jle32Reg dst src offset => (Fields.word ⟨0xbe, dst.code, src.code, offset, 0⟩, none)
  | .jslt64Imm dst imm offset => (Fields.word ⟨0xc5, dst.code, 0, offset, imm⟩, none)
  | .jslt64Reg dst src offset => (Fields.word ⟨0xcd, dst.code, src.code, offset, 0⟩, none)
  | .jslt32Imm dst imm offset => (Fields.word ⟨0xc6, dst.code, 0, offset, imm⟩, none)
  | .jslt32Reg dst src offset => (Fields.word ⟨0xce, dst.code, src.code, offset, 0⟩, none)
  | .jsle64Imm dst imm offset => (Fields.word ⟨0xd5, dst.code, 0, offset, imm⟩, none)
  | .jsle64Reg dst src offset => (Fields.word ⟨0xdd, dst.code, src.code, offset, 0⟩, none)
  | .jsle32Imm dst imm offset => (Fields.word ⟨0xd6, dst.code, 0, offset, imm⟩, none)
  | .jsle32Reg dst src offset => (Fields.word ⟨0xde, dst.code, src.code, offset, 0⟩, none)
  | .callHelper imm => (Fields.word ⟨0x85, 0, 0, 0, imm⟩, none)
  | .callLocal imm => (Fields.word ⟨0x85, 0, 1, 0, imm⟩, none)
  | .callBtf offset imm => (Fields.word ⟨0x85, 0, 2, offset, imm⟩, none)
  | .exit => (Fields.word ⟨0x95, 0, 0, 0, 0⟩, none)
  | .ldxw dst src offset => (Fields.word ⟨0x61, dst.code, src.code, offset, 0⟩, none)
  | .ldxh dst src offset => (Fields.word ⟨0x69, dst.code, src.code, offset, 0⟩, none)
  | .ldxb dst src offset => (Fields.word ⟨0x71, dst.code, src.code, offset, 0⟩, none)
  | .ldxdw dst src offset => (Fields.word ⟨0x79, dst.code, src.code, offset, 0⟩, none)
  | .ldxsw dst src offset => (Fields.word ⟨0x81, dst.code, src.code, offset, 0⟩, none)
  | .ldxsh dst src offset => (Fields.word ⟨0x89, dst.code, src.code, offset, 0⟩, none)
  | .ldxsb dst src offset => (Fields.word ⟨0x91, dst.code, src.code, offset, 0⟩, none)
  | .stw dst offset imm => (Fields.word ⟨0x62, dst.code, 0, offset, imm⟩, none)
  | .sth dst offset imm => (Fields.word ⟨0x6a, dst.code, 0, offset, imm⟩, none)
  | .stb dst offset imm => (Fields.word ⟨0x72, dst.code, 0, offset, imm⟩, none)
  | .stdw dst offset imm => (Fields.word ⟨0x7a, dst.code, 0, offset, imm⟩, none)
  | .stxw dst src offset => (Fields.word ⟨0x63, dst.code, src.code, offset, 0⟩, none)
  | .stxh dst src offset => (Fields.word ⟨0x6b, dst.code, src.code, offset, 0⟩, none)
  | .stxb dst src offset => (Fields.word ⟨0x73, dst.code, src.code, offset, 0⟩, none)
  | .stxdw dst src offset => (Fields.word ⟨0x7b, dst.code, src.code, offset, 0⟩, none)
  | .atomicAdd32 dst src offset => (Fields.word ⟨0xc3, dst.code, src.code, offset, 0⟩, none)
  | .atomicFetchAdd32 dst src offset => (Fields.word ⟨0xc3, dst.code, src.code, offset, 1⟩, none)
  | .atomicOr32 dst src offset => (Fields.word ⟨0xc3, dst.code, src.code, offset, 0x40⟩, none)
  | .atomicFetchOr32 dst src offset => (Fields.word ⟨0xc3, dst.code, src.code, offset, 0x41⟩, none)
  | .atomicAnd32 dst src offset => (Fields.word ⟨0xc3, dst.code, src.code, offset, 0x50⟩, none)
  | .atomicFetchAnd32 dst src offset => (Fields.word ⟨0xc3, dst.code, src.code, offset, 0x51⟩, none)
  | .atomicXor32 dst src offset => (Fields.word ⟨0xc3, dst.code, src.code, offset, 0xa0⟩, none)
  | .atomicFetchXor32 dst src offset => (Fields.word ⟨0xc3, dst.code, src.code, offset, 0xa1⟩, none)
  | .atomicAdd64 dst src offset => (Fields.word ⟨0xdb, dst.code, src.code, offset, 0⟩, none)
  | .atomicFetchAdd64 dst src offset => (Fields.word ⟨0xdb, dst.code, src.code, offset, 1⟩, none)
  | .atomicOr64 dst src offset => (Fields.word ⟨0xdb, dst.code, src.code, offset, 0x40⟩, none)
  | .atomicFetchOr64 dst src offset => (Fields.word ⟨0xdb, dst.code, src.code, offset, 0x41⟩, none)
  | .atomicAnd64 dst src offset => (Fields.word ⟨0xdb, dst.code, src.code, offset, 0x50⟩, none)
  | .atomicFetchAnd64 dst src offset => (Fields.word ⟨0xdb, dst.code, src.code, offset, 0x51⟩, none)
  | .atomicXor64 dst src offset => (Fields.word ⟨0xdb, dst.code, src.code, offset, 0xa0⟩, none)
  | .atomicFetchXor64 dst src offset => (Fields.word ⟨0xdb, dst.code, src.code, offset, 0xa1⟩, none)
  | .atomicXchg32 dst src offset => (Fields.word ⟨0xc3, dst.code, src.code, offset, 0xe1⟩, none)
  | .atomicXchg64 dst src offset => (Fields.word ⟨0xdb, dst.code, src.code, offset, 0xe1⟩, none)
  | .atomicCmpxchg32 dst src offset => (Fields.word ⟨0xc3, dst.code, src.code, offset, 0xf1⟩, none)
  | .atomicCmpxchg64 dst src offset => (Fields.word ⟨0xdb, dst.code, src.code, offset, 0xf1⟩, none)
  | .lddw dst imm nextImm => (Fields.word ⟨0x18, dst.code, 0, 0, imm⟩, some (Fields.word ⟨0, 0, 0, 0, nextImm⟩))
  | .ldMapFd dst imm => (Fields.word ⟨0x18, dst.code, 1, 0, imm⟩, some (Fields.word ⟨0, 0, 0, 0, 0⟩))
  | .ldMapFdVal dst imm nextImm => (Fields.word ⟨0x18, dst.code, 2, 0, imm⟩, some (Fields.word ⟨0, 0, 0, 0, nextImm⟩))
  | .ldVarAddr dst imm => (Fields.word ⟨0x18, dst.code, 3, 0, imm⟩, some (Fields.word ⟨0, 0, 0, 0, 0⟩))
  | .ldCodeAddr dst imm => (Fields.word ⟨0x18, dst.code, 4, 0, imm⟩, some (Fields.word ⟨0, 0, 0, 0, 0⟩))
  | .ldMapIdx dst imm => (Fields.word ⟨0x18, dst.code, 5, 0, imm⟩, some (Fields.word ⟨0, 0, 0, 0, 0⟩))
  | .ldMapIdxVal dst imm nextImm => (Fields.word ⟨0x18, dst.code, 6, 0, imm⟩, some (Fields.word ⟨0, 0, 0, 0, nextImm⟩))
  | .ldabsw imm => (Fields.word ⟨0x20, 0, 0, 0, imm⟩, none)
  | .ldabsh imm => (Fields.word ⟨0x28, 0, 0, 0, imm⟩, none)
  | .ldabsb imm => (Fields.word ⟨0x30, 0, 0, 0, imm⟩, none)
  | .ldindw src imm => (Fields.word ⟨0x40, 0, src.code, 0, imm⟩, none)
  | .ldindh src imm => (Fields.word ⟨0x48, 0, src.code, 0, imm⟩, none)
  | .ldindb src imm => (Fields.word ⟨0x50, 0, src.code, 0, imm⟩, none)

/-- The bytes of an instruction on a host (R93). -/
def encodeBytes (e : Endian) (i : Instr) : List Byte :=
  (Slot.ofWord e (encode i).1).bytes ++
    match (encode i).2 with
    | none => []
    | some w => (Slot.ofWord e w).bytes

/-! ## The opcode table's own numbering -/

/-- The slots that hold an instruction whose bits are `w` (numbered as spec/opcode_table.json numbers them: the first
slot's canonical word is bits 63:0, the second's bits 127:64), every bit from `nbits` on taken as zero. -/
def tableSlots (e : Endian) (nbits w : Nat) : Slot × Slot :=
  (Slot.ofWord e (BitVec.ofNat 64 (w % 2 ^ nbits)), Slot.ofWord e (BitVec.ofNat 64 (w % 2 ^ nbits / 2 ^ 64)))

/-- The instruction the decoder reads from the bytes of a table word, laid out as a little-endian host stores them
(the order of the other host gives the same canonical words, R93). -/
def decodeTableWord (nbits w : Nat) : Option Instr :=
  match decodeBytes .little ((tableSlots .little nbits w).1.bytes ++ (tableSlots .little nbits w).2.bytes) with
  | .ok (i, _) => some i
  | .error _ => none

end Sys2Proof
end

