-- ==== Sys2Proof/Machine/Fetch.lean ====
section
/-! DEFINITION. Machine/Fetch.lean: which slots start an instruction, fetching and decoding one, and placing one in the
program text. -/

namespace Sys2Proof.Machine

/-- Whether slot `n` of a text starts an instruction: a slot with the wide opcode that is not itself a second half makes
the next slot a second half (R405). `second` says that the text's first slot is one. -/
def startsFrom (second : Bool) : List Slot → Nat → Bool
  | [], _ => false
  | _ :: _, 0 => !second
  | s :: rest, n + 1 => startsFrom (!second && s.opcode == wideOpcode) rest n

/-- Slot `t` is the first slot of an instruction of the program: `0 ≤ t < N`, and no second half (R35, R405). -/
def State.isTarget (s : State) (t : Int) : Bool := decide (0 ≤ t) && startsFrom false s.prog t.toNat

/-- Slot `n` of the program text (of a slot of the program; a zero slot past its end). -/
def State.slotAt (s : State) (n : Nat) : Slot := s.prog.getD n Slot.zero

/-- Slot `n` of the program text, if there is one. -/
def State.slotAt? (s : State) (n : Nat) : Option Slot := s.prog[n]?

/-- The fetch at the start of a step: the slot at `pc`, and the one after it if there is one; raises `BadJumpTarget(pc)`
where no instruction starts (R405). -/
def fetch (s : State) (k : Slot → Option Slot → Out) : Out :=
  if s.isTarget s.pc then k (s.slotAt s.pc.toNat) (s.slotAt? (s.pc.toNat + 1)) else raise (.badJumpTarget s.pc)

/-- Fetch and decode: raises `IllegalInstruction(pc)`, with the reason, where the slot is no instruction of the platform
(R404, R417). -/
def fetchInstr (s : State) (k : Instr → Out) : Out :=
  fetch s fun a b =>
    match decodeFor s.plat a b with
    | .ok i => k i
    | .error why => raise (.illegalInstruction s.pc why)

/-! ## Placing an instruction in the program text -/

/-- Whether the slot after a text is a second half (R405). -/
def endsOpen (second : Bool) : List Slot → Bool
  | [] => second
  | s :: rest => endsOpen (!second && s.opcode == wideOpcode) rest

/-- The first `n` slots of a text, with zero slots after a shorter one. -/
def slotsBefore : Nat → List Slot → List Slot
  | 0, _ => []
  | n + 1, [] => Slot.zero :: slotsBefore n []
  | n + 1, s :: rest => s :: slotsBefore n rest

/-- A text whose slots `n` and `n + 1` are the given ones, so that slot `n` starts an instruction: what stands before them
is kept, unless it would make slot `n` a second half; then zero slots stand there. -/
def placeSlots (prog : List Slot) (n : Nat) (a b : Slot) : List Slot :=
  (if endsOpen false (slotsBefore n prog) then slotsBefore n [] else slotsBefore n prog) ++
    a :: b :: prog.drop (n + 2)

end Sys2Proof.Machine
end

