-- ==== Sys2Proof/Machine/Step.lean ====
section
/-! DEFINITION. Machine/Step.lean: one step of the machine, and the state that fetches a given instruction next. -/

namespace Sys2Proof.Machine

/-- One step (R401, R417): only a running program steps (R43); other agents have their turn (R66); then fetch, decode and
the instruction's meaning. -/
def step (s : State) : Host.Outcome State Fault Refusal :=
  match s.status with
  | .running => fetchInstr s.envTurn fun i => exec i s.envTurn
  | _ => .refused .runEnded

/-- The state with a given instruction where the next step fetches: the program text has it at `pc` (at slot 0 if `pc` is
negative), and the run is not over (notes/assumptions/9.md). -/
def State.withFetchWord (s : State) (nbits w : Nat) : State :=
  { s with
    prog := placeSlots s.prog s.pc.toNat (tableSlots s.plat.endian nbits w).1 (tableSlots s.plat.endian nbits w).2
    pc := s.pc.toNat
    status := .running }

end Sys2Proof.Machine
end

