-- ==== Sys2Proof/Safety.lean ====
section
/-! DEFINITION. Safety.lean: the terms in which claims speak of runs: what a run leaves, what a valid platform is, and
the invariants of a running machine. -/

namespace Sys2Proof.Machine

/-! ## Runs -/

/-- What an observer sees after a step that was tried in `s`: the next state; after a fault, the state as the other
agents' turn left it, frozen with the fault in its status (R401, notes/assumptions/12.md); after a refusal, nothing:
there is no state of which a claim could speak (R411). -/
def observe (s : State) : Option State :=
  match step s with
  | .next t => some t
  | .fault f => some (s.envTurn.frozen f)
  | .refused _ => none

/-- `n` steps, or fewer if the run ends before: the state an observer sees then, and none if a step was refused. -/
def observeRun : Nat → State → Option State
  | 0, s => some s
  | n + 1, s =>
    match s.status with
    | .running => (observe s).bind (observeRun n)
    | _ => some s

/-- No fault within `n` steps, and no refusal either (R411). -/
def safeFor (n : Nat) (s : State) : Prop := ∃ t, observeRun n s = some t ∧ ∀ f, t.status ≠ .fault f

/-- The program returns `v` within `n` steps (R43, R445). -/
def returnsWithin (n : Nat) (s : State) (v : Word) : Prop := ∃ t, observeRun n s = some t ∧ t.status = .final v

/-- The instruction that the step from `s` decodes at `pc`, if it decodes one (R118, R405). -/
def State.decodesTo (s : State) (i : Instr) : Prop :=
  s.isTarget s.pc = true ∧ decodeFor s.plat (s.slotAt s.pc.toNat) (s.slotAt? (s.pc.toNat + 1)) = .ok i

/-! ## What the platform must have done (R444) -/

/-- The stacks below two tops do not overlap (R31, R444(4)). -/
def stacksApart (size : Nat) (t u : Word) : Prop := t.toNat + size ≤ u.toNat ∨ u.toNat + size ≤ t.toNat

/-- The first address and the length of the bytes a clause of the platform's predicate admits. -/
def admittedRange : AdmitRule → Nat × Nat
  | .region base size _ => (base, size)
  | .exactly addr n _ => (addr, n)

/-- The stack below a top overlaps no bytes that a clause admits (R444(4)). -/
def stackApartFrom (size : Nat) (t : Word) (r : AdmitRule) : Prop :=
  (admittedRange r).2 = 0 ∨ (admittedRange r).1 + (admittedRange r).2 + size ≤ t.toNat ∨ t.toNat ≤ (admittedRange r).1

/-- The tops `FRAME_TOP(k)` for `0 <= k < MAX_CALL_DEPTH` (R444(4)). -/
def usedTops (p : Platform) : List Word := p.frameTops.take p.maxCallDepth

/-- The platform's part of R444(2) and (4): `base32` among the groups (R4), a frame top for every depth, each a multiple
of 8 with room for a stack below it, the stacks apart from one another and from every other admitted region. -/
def PlatformValid (p : Platform) : Prop :=
  supports p.groups .base32 = true ∧ 1 ≤ p.maxCallDepth ∧ p.maxCallDepth ≤ p.frameTops.length ∧
    (∀ t ∈ usedTops p, t.toNat % 8 = 0 ∧ p.stackSize ≤ t.toNat) ∧ (usedTops p).Pairwise (stacksApart p.stackSize) ∧
    ∀ t ∈ usedTops p, ∀ r ∈ p.admission, stackApartFrom p.stackSize t r

/-- The platform has defined what an instruction in slot `n` names: its map, variable or code address (R444(3)) or its
helper (R444(5)). -/
def namesResolved (p : Platform) (n : Nat) (i : Instr) : Prop :=
  (∀ d imm, i = .ldMapFd d imm → ∃ v, p.mapByFd.lookup imm.toInt = some v) ∧
  (∀ d imm nx, i = .ldMapFdVal d imm nx → ∃ x v, p.mapByFd.lookup imm.toInt = some x ∧ p.mapVal.lookup x = some v) ∧
  (∀ d imm, i = .ldVarAddr d imm → ∃ v, p.varAddr.lookup imm.toInt = some v) ∧
  (∀ d imm, i = .ldCodeAddr d imm → ∃ v, p.codeAddr.lookup ((n : Int), imm.toInt) = some v) ∧
  (∀ d imm, i = .ldMapIdx d imm → ∃ v, p.mapByIdx.lookup imm.toInt = some v) ∧
  (∀ d imm nx, i = .ldMapIdxVal d imm nx → ∃ x v, p.mapByIdx.lookup imm.toInt = some x ∧ p.mapVal.lookup x = some v) ∧
  (∀ imm, i = .callHelper imm → ∃ r ∈ p.helpers, r.ref = .static imm.toInt) ∧
  ∀ off imm, i = .callBtf off imm → ∃ r ∈ p.helpers, r.ref = .btf imm.toInt off.toInt

/-- A state before whose first step the platform has done all that R444 asks: (1) a program of at least one slot, (2) and (4)
a valid platform, (3) and (5) every name of the program resolved, (6) the start state of R440 to R442. -/
def State.readyToStart (s : State) : Prop :=
  1 ≤ s.prog.length ∧ PlatformValid s.plat ∧
    (∀ (n : Nat) (i : Instr), ({ s with pc := (n : Int) } : State).decodesTo i → namesResolved s.plat n i) ∧
    ∃ mem env, Memory.wf mem ∧ s = State.runStart s.plat s.prog mem env

/-! ## Invariants -/

/-- `R10` holds the top of the running frame's stack (R28, R31). -/
def State.framePointerOk (s : State) : Prop := s.reg .r10 = some (s.frameTop s.frames.length)

/-- No more frames are alive than `MAX_CALL_DEPTH`, the entry frame counted (R245). -/
def State.depthOk (s : State) : Prop := s.frames = [] ∨ s.frames.length + 1 ≤ s.plat.maxCallDepth

/-- No two stacks, the stack of no frame to come, and no byte outside them share a draw of unwritten bytes (R442): the
next draw is above all that were taken, each of these above the one before it, and all above the first, 0. -/
def State.drawsFresh (s : State) : Prop := (s.nextDraw :: (s.draws.map Prod.snd ++ [0])).Pairwise fun m n => n < m

/-- The invariant of a running machine. -/
def State.Inv (s : State) : Prop :=
  Memory.wf s.mem ∧ s.framePointerOk ∧ s.depthOk ∧ s.drawsFresh

/-! ## What an instruction touches

Three tables written from R29, R301 and the operand lines of the instruction rules, not from the meanings: claims compare
the meanings with them. -/

/-- The registers an instruction reads, in the order in which a read of "no value" is reported (R29, R409): `dst`, then
`src`, then `R0`. `CALL` hands `R1` to `R5` on without reading them in this sense (R296). -/
def readsOf : Instr → List Reg
  | .add32Imm dst _ => [dst]
  | .add32Reg dst src => [dst, src]
  | .add64Imm dst _ => [dst]
  | .add64Reg dst src => [dst, src]
  | .sub32Imm dst _ => [dst]
  | .sub32Reg dst src => [dst, src]
  | .sub64Imm dst _ => [dst]
  | .sub64Reg dst src => [dst, src]
  | .mul32Imm dst _ => [dst]
  | .mul32Reg dst src => [dst, src]
  | .mul64Imm dst _ => [dst]
  | .mul64Reg dst src => [dst, src]
  | .div32Imm dst _ => [dst]
  | .div32Reg dst src => [dst, src]
  | .div64Imm dst _ => [dst]
  | .div64Reg dst src => [dst, src]
  | .sdiv32Imm dst _ => [dst]
  | .sdiv32Reg dst src => [dst, src]
  | .sdiv64Imm dst _ => [dst]
  | .sdiv64Reg dst src => [dst, src]
  | .or32Imm dst _ => [dst]
  | .or32Reg dst src => [dst, src]
  | .or64Imm dst _ => [dst]
  | .or64Reg dst src => [dst, src]
  | .and32Imm dst _ => [dst]
  | .and32Reg dst src => [dst, src]
  | .and64Imm dst _ => [dst]
  | .and64Reg dst src => [dst, src]
  | .lsh32Imm dst _ => [dst]
  | .lsh32Reg dst src => [dst, src]
  | .lsh64Imm dst _ => [dst]
  | .lsh64Reg dst src => [dst, src]
  | .rsh32Imm dst _ => [dst]
  | .rsh32Reg dst src => [dst, src]
  | .rsh64Imm dst _ => [dst]
  | .rsh64Reg dst src => [dst, src]
  | .mod32Imm dst _ => [dst]
  | .mod32Reg dst src => [dst, src]
  | .mod64Imm dst _ => [dst]
  | .mod64Reg dst src => [dst, src]
  | .smod32Imm dst _ => [dst]
  | .smod32Reg dst src => [dst, src]
  | .smod64Imm dst _ => [dst]
  | .smod64Reg dst src => [dst, src]
  | .xor32Imm dst _ => [dst]
  | .xor32Reg dst src => [dst, src]
  | .xor64Imm dst _ => [dst]
  | .xor64Reg dst src => [dst, src]
  | .mov32Imm _ _ => []
  | .mov32Reg _ src => [src]
  | .mov64Imm _ _ => []
  | .mov64Reg _ src => [src]
  | .arsh32Imm dst _ => [dst]
  | .arsh32Reg dst src => [dst, src]
  | .arsh64Imm dst _ => [dst]
  | .arsh64Reg dst src => [dst, src]
  | .neg32 dst => [dst]
  | .neg64 dst => [dst]
  | .movsx32From8 _ src => [src]
  | .movsx32From16 _ src => [src]
  | .movsx64From8 _ src => [src]
  | .movsx64From16 _ src => [src]
  | .movsx64From32 _ src => [src]
  | .le16 dst => [dst]
  | .le32 dst => [dst]
  | .le64 dst => [dst]
  | .be16 dst => [dst]
  | .be32 dst => [dst]
  | .be64 dst => [dst]
  | .bswap16 dst => [dst]
  | .bswap32 dst => [dst]
  | .bswap64 dst => [dst]
  | .ja _ => []
  | .ja32 _ => []
  | .jeq64Imm dst _ _ => [dst]
  | .jeq64Reg dst src _ => [dst, src]
  | .jeq32Imm dst _ _ => [dst]
  | .jeq32Reg dst src _ => [dst, src]
  | .jgt64Imm dst _ _ => [dst]
  | .jgt64Reg dst src _ => [dst, src]
  | .jgt32Imm dst _ _ => [dst]
  | .jgt32Reg dst src _ => [dst, src]
  | .jge64Imm dst _ _ => [dst]
  | .jge64Reg dst src _ => [dst, src]
  | .jge32Imm dst _ _ => [dst]
  | .jge32Reg dst src _ => [dst, src]
  | .jset64Imm dst _ _ => [dst]
  | .jset64Reg dst src _ => [dst, src]
  | .jset32Imm dst _ _ => [dst]
  | .jset32Reg dst src _ => [dst, src]
  | .jne64Imm dst _ _ => [dst]
  | .jne64Reg dst src _ => [dst, src]
  | .jne32Imm dst _ _ => [dst]
  | .jne32Reg dst src _ => [dst, src]
  | .jsgt64Imm dst _ _ => [dst]
  | .jsgt64Reg dst src _ => [dst, src]
  | .jsgt32Imm dst _ _ => [dst]
  | .jsgt32Reg dst src _ => [dst, src]
  | .jsge64Imm dst _ _ => [dst]
  | .jsge64Reg dst src _ => [dst, src]
  | .jsge32Imm dst _ _ => [dst]
  | .jsge32Reg dst src _ => [dst, src]
  | .jlt64Imm dst _ _ => [dst]
  | .jlt64Reg dst src _ => [dst, src]
  | .jlt32Imm dst _ _ => [dst]
  | .jlt32Reg dst src _ => [dst, src]
  | .jle64Imm dst _ _ => [dst]
  | .jle64Reg dst src _ => [dst, src]
  | .jle32Imm dst _ _ => [dst]
  | .jle32Reg dst src _ => [dst, src]
  | .jslt64Imm dst _ _ => [dst]
  | .jslt64Reg dst src _ => [dst, src]
  | .jslt32Imm dst _ _ => [dst]
  | .jslt32Reg dst src _ => [dst, src]
  | .jsle64Imm dst _ _ => [dst]
  | .jsle64Reg dst src _ => [dst, src]
  | .jsle32Imm dst _ _ => [dst]
  | .jsle32Reg dst src _ => [dst, src]
  | .callHelper _ => []
  | .callLocal _ => []
  | .callBtf _ _ => []
  | .exit => [.r0]
  | .ldxw _ src _ => [src]
  | .ldxh _ src _ => [src]
  | .ldxb _ src _ => [src]
  | .ldxdw _ src _ => [src]
  | .ldxsw _ src _ => [src]
  | .ldxsh _ src _ => [src]
  | .ldxsb _ src _ => [src]
  | .stw dst _ _ => [dst]
  | .sth dst _ _ => [dst]
  | .stb dst _ _ => [dst]
  | .stdw dst _ _ => [dst]
  | .stxw dst src _ => [dst, src]
  | .stxh dst src _ => [dst, src]
  | .stxb dst src _ => [dst, src]
  | .stxdw dst src _ => [dst, src]
  | .atomicAdd32 dst src _ => [dst, src]
  | .atomicFetchAdd32 dst src _ => [dst, src]
  | .atomicOr32 dst src _ => [dst, src]
  | .atomicFetchOr32 dst src _ => [dst, src]
  | .atomicAnd32 dst src _ => [dst, src]
  | .atomicFetchAnd32 dst src _ => [dst, src]
  | .atomicXor32 dst src _ => [dst, src]
  | .atomicFetchXor32 dst src _ => [dst, src]
  | .atomicAdd64 dst src _ => [dst, src]
  | .atomicFetchAdd64 dst src _ => [dst, src]
  | .atomicOr64 dst src _ => [dst, src]
  | .atomicFetchOr64 dst src _ => [dst, src]
  | .atomicAnd64 dst src _ => [dst, src]
  | .atomicFetchAnd64 dst src _ => [dst, src]
  | .atomicXor64 dst src _ => [dst, src]
  | .atomicFetchXor64 dst src _ => [dst, src]
  | .atomicXchg32 dst src _ => [dst, src]
  | .atomicXchg64 dst src _ => [dst, src]
  | .atomicCmpxchg32 dst src _ => [dst, src, .r0]
  | .atomicCmpxchg64 dst src _ => [dst, src, .r0]
  | .lddw _ _ _ => []
  | .ldMapFd _ _ => []
  | .ldMapFdVal _ _ _ => []
  | .ldVarAddr _ _ => []
  | .ldCodeAddr _ _ => []
  | .ldMapIdx _ _ => []
  | .ldMapIdxVal _ _ _ => []
  | .ldabsw _ => []
  | .ldabsh _ => []
  | .ldabsb _ => []
  | .ldindw _ _ => []
  | .ldindh _ _ => []
  | .ldindb _ _ => []

/-- The registers an instruction may leave with another content (R29, R247 to R249). -/
def writesOf : Instr → List Reg
  | .add32Imm dst _ => [dst]
  | .add32Reg dst _ => [dst]
  | .add64Imm dst _ => [dst]
  | .add64Reg dst _ => [dst]
  | .sub32Imm dst _ => [dst]
  | .sub32Reg dst _ => [dst]
  | .sub64Imm dst _ => [dst]
  | .sub64Reg dst _ => [dst]
  | .mul32Imm dst _ => [dst]
  | .mul32Reg dst _ => [dst]
  | .mul64Imm dst _ => [dst]
  | .mul64Reg dst _ => [dst]
  | .div32Imm dst _ => [dst]
  | .div32Reg dst _ => [dst]
  | .div64Imm dst _ => [dst]
  | .div64Reg dst _ => [dst]
  | .sdiv32Imm dst _ => [dst]
  | .sdiv32Reg dst _ => [dst]
  | .sdiv64Imm dst _ => [dst]
  | .sdiv64Reg dst _ => [dst]
  | .or32Imm dst _ => [dst]
  | .or32Reg dst _ => [dst]
  | .or64Imm dst _ => [dst]
  | .or64Reg dst _ => [dst]
  | .and32Imm dst _ => [dst]
  | .and32Reg dst _ => [dst]
  | .and64Imm dst _ => [dst]
  | .and64Reg dst _ => [dst]
  | .lsh32Imm dst _ => [dst]
  | .lsh32Reg dst _ => [dst]
  | .lsh64Imm dst _ => [dst]
  | .lsh64Reg dst _ => [dst]
  | .rsh32Imm dst _ => [dst]
  | .rsh32Reg dst _ => [dst]
  | .rsh64Imm dst _ => [dst]
  | .rsh64Reg dst _ => [dst]
  | .mod32Imm dst _ => [dst]
  | .mod32Reg dst _ => [dst]
  | .mod64Imm dst _ => [dst]
  | .mod64Reg dst _ => [dst]
  | .smod32Imm dst _ => [dst]
  | .smod32Reg dst _ => [dst]
  | .smod64Imm dst _ => [dst]
  | .smod64Reg dst _ => [dst]
  | .xor32Imm dst _ => [dst]
  | .xor32Reg dst _ => [dst]
  | .xor64Imm dst _ => [dst]
  | .xor64Reg dst _ => [dst]
  | .mov32Imm dst _ => [dst]
  | .mov32Reg dst _ => [dst]
  | .mov64Imm dst _ => [dst]
  | .mov64Reg dst _ => [dst]
  | .arsh32Imm dst _ => [dst]
  | .arsh32Reg dst _ => [dst]
  | .arsh64Imm dst _ => [dst]
  | .arsh64Reg dst _ => [dst]
  | .neg32 dst => [dst]
  | .neg64 dst => [dst]
  | .movsx32From8 dst _ => [dst]
  | .movsx32From16 dst _ => [dst]
  | .movsx64From8 dst _ => [dst]
  | .movsx64From16 dst _ => [dst]
  | .movsx64From32 dst _ => [dst]
  | .le16 dst => [dst]
  | .le32 dst => [dst]
  | .le64 dst => [dst]
  | .be16 dst => [dst]
  | .be32 dst => [dst]
  | .be64 dst => [dst]
  | .bswap16 dst => [dst]
  | .bswap32 dst => [dst]
  | .bswap64 dst => [dst]
  | .ja _ => []
  | .ja32 _ => []
  | .jeq64Imm _ _ _ => []
  | .jeq64Reg _ _ _ => []
  | .jeq32Imm _ _ _ => []
  | .jeq32Reg _ _ _ => []
  | .jgt64Imm _ _ _ => []
  | .jgt64Reg _ _ _ => []
  | .jgt32Imm _ _ _ => []
  | .jgt32Reg _ _ _ => []
  | .jge64Imm _ _ _ => []
  | .jge64Reg _ _ _ => []
  | .jge32Imm _ _ _ => []
  | .jge32Reg _ _ _ => []
  | .jset64Imm _ _ _ => []
  | .jset64Reg _ _ _ => []
  | .jset32Imm _ _ _ => []
  | .jset32Reg _ _ _ => []
  | .jne64Imm _ _ _ => []
  | .jne64Reg _ _ _ => []
  | .jne32Imm _ _ _ => []
  | .jne32Reg _ _ _ => []
  | .jsgt64Imm _ _ _ => []
  | .jsgt64Reg _ _ _ => []
  | .jsgt32Imm _ _ _ => []
  | .jsgt32Reg _ _ _ => []
  | .jsge64Imm _ _ _ => []
  | .jsge64Reg _ _ _ => []
  | .jsge32Imm _ _ _ => []
  | .jsge32Reg _ _ _ => []
  | .jlt64Imm _ _ _ => []
  | .jlt64Reg _ _ _ => []
  | .jlt32Imm _ _ _ => []
  | .jlt32Reg _ _ _ => []
  | .jle64Imm _ _ _ => []
  | .jle64Reg _ _ _ => []
  | .jle32Imm _ _ _ => []
  | .jle32Reg _ _ _ => []
  | .jslt64Imm _ _ _ => []
  | .jslt64Reg _ _ _ => []
  | .jslt32Imm _ _ _ => []
  | .jslt32Reg _ _ _ => []
  | .jsle64Imm _ _ _ => []
  | .jsle64Reg _ _ _ => []
  | .jsle32Imm _ _ _ => []
  | .jsle32Reg _ _ _ => []
  | .callHelper _ => [.r0, .r1, .r2, .r3, .r4, .r5]
  | .callLocal _ => [.r0, .r6, .r7, .r8, .r9, .r10]
  | .callBtf _ _ => [.r0, .r1, .r2, .r3, .r4, .r5]
  | .exit => [.r1, .r2, .r3, .r4, .r5, .r6, .r7, .r8, .r9, .r10]
  | .ldxw dst _ _ => [dst]
  | .ldxh dst _ _ => [dst]
  | .ldxb dst _ _ => [dst]
  | .ldxdw dst _ _ => [dst]
  | .ldxsw dst _ _ => [dst]
  | .ldxsh dst _ _ => [dst]
  | .ldxsb dst _ _ => [dst]
  | .stw _ _ _ => []
  | .sth _ _ _ => []
  | .stb _ _ _ => []
  | .stdw _ _ _ => []
  | .stxw _ _ _ => []
  | .stxh _ _ _ => []
  | .stxb _ _ _ => []
  | .stxdw _ _ _ => []
  | .atomicAdd32 _ _ _ => []
  | .atomicFetchAdd32 _ src _ => [src]
  | .atomicOr32 _ _ _ => []
  | .atomicFetchOr32 _ src _ => [src]
  | .atomicAnd32 _ _ _ => []
  | .atomicFetchAnd32 _ src _ => [src]
  | .atomicXor32 _ _ _ => []
  | .atomicFetchXor32 _ src _ => [src]
  | .atomicAdd64 _ _ _ => []
  | .atomicFetchAdd64 _ src _ => [src]
  | .atomicOr64 _ _ _ => []
  | .atomicFetchOr64 _ src _ => [src]
  | .atomicAnd64 _ _ _ => []
  | .atomicFetchAnd64 _ src _ => [src]
  | .atomicXor64 _ _ _ => []
  | .atomicFetchXor64 _ src _ => [src]
  | .atomicXchg32 _ src _ => [src]
  | .atomicXchg64 _ src _ => [src]
  | .atomicCmpxchg32 _ _ _ => [.r0]
  | .atomicCmpxchg64 _ _ _ => [.r0]
  | .lddw dst _ _ => [dst]
  | .ldMapFd dst _ => [dst]
  | .ldMapFdVal dst _ _ => [dst]
  | .ldVarAddr dst _ => [dst]
  | .ldCodeAddr dst _ => [dst]
  | .ldMapIdx dst _ => [dst]
  | .ldMapIdxVal dst _ _ => [dst]
  | .ldabsw _ => []
  | .ldabsh _ => []
  | .ldabsb _ => []
  | .ldindw _ _ => []
  | .ldindh _ _ => []
  | .ldindb _ _ => []

/-- The one memory access of an instruction: its base register, its offset, its width in bytes and its kind (R61,
R301, R333). -/
def accessOf : Instr → Option (Reg × BitVec 16 × Nat × AccessKind)
  | .add32Imm _ _ => none
  | .add32Reg _ _ => none
  | .add64Imm _ _ => none
  | .add64Reg _ _ => none
  | .sub32Imm _ _ => none
  | .sub32Reg _ _ => none
  | .sub64Imm _ _ => none
  | .sub64Reg _ _ => none
  | .mul32Imm _ _ => none
  | .mul32Reg _ _ => none
  | .mul64Imm _ _ => none
  | .mul64Reg _ _ => none
  | .div32Imm _ _ => none
  | .div32Reg _ _ => none
  | .div64Imm _ _ => none
  | .div64Reg _ _ => none
  | .sdiv32Imm _ _ => none
  | .sdiv32Reg _ _ => none
  | .sdiv64Imm _ _ => none
  | .sdiv64Reg _ _ => none
  | .or32Imm _ _ => none
  | .or32Reg _ _ => none
  | .or64Imm _ _ => none
  | .or64Reg _ _ => none
  | .and32Imm _ _ => none
  | .and32Reg _ _ => none
  | .and64Imm _ _ => none
  | .and64Reg _ _ => none
  | .lsh32Imm _ _ => none
  | .lsh32Reg _ _ => none
  | .lsh64Imm _ _ => none
  | .lsh64Reg _ _ => none
  | .rsh32Imm _ _ => none
  | .rsh32Reg _ _ => none
  | .rsh64Imm _ _ => none
  | .rsh64Reg _ _ => none
  | .mod32Imm _ _ => none
  | .mod32Reg _ _ => none
  | .mod64Imm _ _ => none
  | .mod64Reg _ _ => none
  | .smod32Imm _ _ => none
  | .smod32Reg _ _ => none
  | .smod64Imm _ _ => none
  | .smod64Reg _ _ => none
  | .xor32Imm _ _ => none
  | .xor32Reg _ _ => none
  | .xor64Imm _ _ => none
  | .xor64Reg _ _ => none
  | .mov32Imm _ _ => none
  | .mov32Reg _ _ => none
  | .mov64Imm _ _ => none
  | .mov64Reg _ _ => none
  | .arsh32Imm _ _ => none
  | .arsh32Reg _ _ => none
  | .arsh64Imm _ _ => none
  | .arsh64Reg _ _ => none
  | .neg32 _ => none
  | .neg64 _ => none
  | .movsx32From8 _ _ => none
  | .movsx32From16 _ _ => none
  | .movsx64From8 _ _ => none
  | .movsx64From16 _ _ => none
  | .movsx64From32 _ _ => none
  | .le16 _ => none
  | .le32 _ => none
  | .le64 _ => none
  | .be16 _ => none
  | .be32 _ => none
  | .be64 _ => none
  | .bswap16 _ => none
  | .bswap32 _ => none
  | .bswap64 _ => none
  | .ja _ => none
  | .ja32 _ => none
  | .jeq64Imm _ _ _ => none
  | .jeq64Reg _ _ _ => none
  | .jeq32Imm _ _ _ => none
  | .jeq32Reg _ _ _ => none
  | .jgt64Imm _ _ _ => none
  | .jgt64Reg _ _ _ => none
  | .jgt32Imm _ _ _ => none
  | .jgt32Reg _ _ _ => none
  | .jge64Imm _ _ _ => none
  | .jge64Reg _ _ _ => none
  | .jge32Imm _ _ _ => none
  | .jge32Reg _ _ _ => none
  | .jset64Imm _ _ _ => none
  | .jset64Reg _ _ _ => none
  | .jset32Imm _ _ _ => none
  | .jset32Reg _ _ _ => none
  | .jne64Imm _ _ _ => none
  | .jne64Reg _ _ _ => none
  | .jne32Imm _ _ _ => none
  | .jne32Reg _ _ _ => none
  | .jsgt64Imm _ _ _ => none
  | .jsgt64Reg _ _ _ => none
  | .jsgt32Imm _ _ _ => none
  | .jsgt32Reg _ _ _ => none
  | .jsge64Imm _ _ _ => none
  | .jsge64Reg _ _ _ => none
  | .jsge32Imm _ _ _ => none
  | .jsge32Reg _ _ _ => none
  | .jlt64Imm _ _ _ => none
  | .jlt64Reg _ _ _ => none
  | .jlt32Imm _ _ _ => none
  | .jlt32Reg _ _ _ => none
  | .jle64Imm _ _ _ => none
  | .jle64Reg _ _ _ => none
  | .jle32Imm _ _ _ => none
  | .jle32Reg _ _ _ => none
  | .jslt64Imm _ _ _ => none
  | .jslt64Reg _ _ _ => none
  | .jslt32Imm _ _ _ => none
  | .jslt32Reg _ _ _ => none
  | .jsle64Imm _ _ _ => none
  | .jsle64Reg _ _ _ => none
  | .jsle32Imm _ _ _ => none
  | .jsle32Reg _ _ _ => none
  | .callHelper _ => none
  | .callLocal _ => none
  | .callBtf _ _ => none
  | .exit => none
  | .ldxw _ src offset => some (src, offset, 4, .read)
  | .ldxh _ src offset => some (src, offset, 2, .read)
  | .ldxb _ src offset => some (src, offset, 1, .read)
  | .ldxdw _ src offset => some (src, offset, 8, .read)
  | .ldxsw _ src offset => some (src, offset, 4, .read)
  | .ldxsh _ src offset => some (src, offset, 2, .read)
  | .ldxsb _ src offset => some (src, offset, 1, .read)
  | .stw dst offset _ => some (dst, offset, 4, .write)
  | .sth dst offset _ => some (dst, offset, 2, .write)
  | .stb dst offset _ => some (dst, offset, 1, .write)
  | .stdw dst offset _ => some (dst, offset, 8, .write)
  | .stxw dst _ offset => some (dst, offset, 4, .write)
  | .stxh dst _ offset => some (dst, offset, 2, .write)
  | .stxb dst _ offset => some (dst, offset, 1, .write)
  | .stxdw dst _ offset => some (dst, offset, 8, .write)
  | .atomicAdd32 dst _ offset => some (dst, offset, 4, .atomic)
  | .atomicFetchAdd32 dst _ offset => some (dst, offset, 4, .atomic)
  | .atomicOr32 dst _ offset => some (dst, offset, 4, .atomic)
  | .atomicFetchOr32 dst _ offset => some (dst, offset, 4, .atomic)
  | .atomicAnd32 dst _ offset => some (dst, offset, 4, .atomic)
  | .atomicFetchAnd32 dst _ offset => some (dst, offset, 4, .atomic)
  | .atomicXor32 dst _ offset => some (dst, offset, 4, .atomic)
  | .atomicFetchXor32 dst _ offset => some (dst, offset, 4, .atomic)
  | .atomicAdd64 dst _ offset => some (dst, offset, 8, .atomic)
  | .atomicFetchAdd64 dst _ offset => some (dst, offset, 8, .atomic)
  | .atomicOr64 dst _ offset => some (dst, offset, 8, .atomic)
  | .atomicFetchOr64 dst _ offset => some (dst, offset, 8, .atomic)
  | .atomicAnd64 dst _ offset => some (dst, offset, 8, .atomic)
  | .atomicFetchAnd64 dst _ offset => some (dst, offset, 8, .atomic)
  | .atomicXor64 dst _ offset => some (dst, offset, 8, .atomic)
  | .atomicFetchXor64 dst _ offset => some (dst, offset, 8, .atomic)
  | .atomicXchg32 dst _ offset => some (dst, offset, 4, .atomic)
  | .atomicXchg64 dst _ offset => some (dst, offset, 8, .atomic)
  | .atomicCmpxchg32 dst _ offset => some (dst, offset, 4, .atomic)
  | .atomicCmpxchg64 dst _ offset => some (dst, offset, 8, .atomic)
  | .lddw _ _ _ => none
  | .ldMapFd _ _ => none
  | .ldMapFdVal _ _ _ => none
  | .ldVarAddr _ _ => none
  | .ldCodeAddr _ _ => none
  | .ldMapIdx _ _ => none
  | .ldMapIdxVal _ _ _ => none
  | .ldabsw _ => none
  | .ldabsh _ => none
  | .ldabsb _ => none
  | .ldindw _ _ => none
  | .ldindh _ _ => none
  | .ldindb _ _ => none

/-- The state with one register written and `pc` moved on by `n` slots, and nothing else changed. -/
def State.updated (s : State) (r : Reg) (v : Word) (n : Int) : State :=
  { s with regs := s.regs.set r (some v), pc := s.pc + n }

/-- The state with `pc` at slot `t`, and nothing else changed. -/
def State.movedTo (s : State) (t : Int) : State := { s with pc := t }

/-- Byte `k` of an access of `n` bytes that holds the value `v` (R56): bits `8k+7:8k` on a little-endian host, bits
`8(n-1-k)+7:8(n-1-k)` on a big-endian one. -/
def byteOf (e : Endian) (n : Nat) (v : Word) (k : Nat) : Byte :=
  match e with
  | .little => v.extractLsb' (8 * k) 8
  | .big => v.extractLsb' (8 * (n - 1 - k)) 8

/-- An access of kind `kind` to `n` bytes at `a` goes through: it is admitted, and aligned where it must be (R63 to
R65). -/
def State.accessible (s : State) (a : Word) (n : Nat) (kind : AccessKind) : Prop :=
  s.admits a n kind = true ∧ (kind = .atomic ∨ s.plat.alignStrict = true → a.toNat % n = 0)

/-- What a store of the low `n` bytes of `v` at `a` leaves: the bytes there are the value's in the host's order, every
other byte reads as before, and but for memory and a `pc` one slot on nothing has changed (R56, R64). -/
def storedAt (s t : State) (a n : Nat) (v : Word) : Prop :=
  t = { s with mem := t.mem, pc := s.pc + 1 } ∧
    (∀ k < n, t.byteAt (a + k) = byteOf s.plat.endian n v k) ∧
    ∀ x, x < a ∨ a + n ≤ x → t.byteAt x = s.byteAt x

/-- What an atomic leaves: as a store, and beside it the register `r` holds `old`. -/
def storedAndFetched (s t : State) (a n : Nat) (v : Word) (r : Reg) (old : Word) : Prop :=
  t = { s with mem := t.mem, pc := s.pc + 1, regs := s.regs.set r (some old) } ∧
    (∀ k < n, t.byteAt (a + k) = byteOf s.plat.endian n v k) ∧
    ∀ x, x < a ∨ a + n ≤ x → t.byteAt x = s.byteAt x

/-! ## The arithmetic of the instruction rules

The formulas of the rules over the mathematical integers (R17), for claims to compare the meanings with. -/

/-- The unsigned reading of the low `w` bits (R12, R17). -/
def uw (w : Nat) (x : Word) : Int := ((x.toNat % 2 ^ w : Nat) : Int)

/-- The two's complement reading of the low `w` bits, in `[-2^(w-1), 2^(w-1) - 1]` (R12, R17). -/
def sw (w : Nat) (x : Word) : Int := if uw w x < 2 ^ (w - 1) then uw w x else uw w x - 2 ^ w

/-- `z mod 2^w`, as a register value: bits 63 to `w` are zero (R131, R133). -/
def wrap (w : Nat) (z : Int) : Word := BitVec.ofInt 64 (z % 2 ^ w)

/-- `(a + b) mod 2^w` (R133). -/
def sumOf (w : Nat) (a b : Word) : Word := wrap w (uw w a + uw w b)

/-- `(a - b) mod 2^w` (R133). -/
def differenceOf (w : Nat) (a b : Word) : Word := wrap w (uw w a - uw w b)

/-- `(a * b) mod 2^w` (R133). -/
def productOf (w : Nat) (a b : Word) : Word := wrap w (uw w a * uw w b)

/-- `floor(a / b)`, unsigned; 0 for `b = 0` (R134, R135). -/
def quotientOf (w : Nat) (a b : Word) : Word := if uw w b = 0 then 0 else wrap w (uw w a / uw w b)

/-- `trunc(sw(a) / sw(b))` wrapped; 0 for `b = 0` (R134, R135). -/
def signedQuotientOf (w : Nat) (a b : Word) : Word := if uw w b = 0 then 0 else wrap w ((sw w a).tdiv (sw w b))

/-- `a - b * floor(a / b)`, unsigned; `a` for `b = 0` (R134, R135). -/
def remainderOf (w : Nat) (a b : Word) : Word :=
  if uw w b = 0 then wrap w (uw w a) else wrap w (uw w a - uw w b * (uw w a / uw w b))

/-- `sw(a) - sw(b) * trunc(sw(a) / sw(b))` wrapped; `a` for `b = 0` (R134, R135). -/
def signedRemainderOf (w : Nat) (a b : Word) : Word :=
  if uw w b = 0 then wrap w (uw w a) else wrap w (sw w a - sw w b * (sw w a).tdiv (sw w b))

/-- `(a * 2^n) mod 2^w` with `n = b mod w`, which is `b & (w - 1)` for `w` 32 or 64 (R136). -/
def shiftedLeft (w : Nat) (a b : Word) : Word := wrap w (uw w a * 2 ^ (b.toNat % w))

/-- `floor(a / 2^n)`, unsigned, `n = b mod w` (R136). -/
def shiftedRight (w : Nat) (a b : Word) : Word := wrap w (uw w a / 2 ^ (b.toNat % w))

/-- `floor(sw(a) / 2^n) mod 2^w`, `n = b mod w` (R136). -/
def shiftedRightSigned (w : Nat) (a b : Word) : Word := wrap w (sw w a / 2 ^ (b.toNat % w))

/-- `r` is the low `8n` bits of `a`, the bits above them zero (R211). -/
def keptBytes (n : Nat) (a r : Word) : Prop := r.toNat = a.toNat % 2 ^ (8 * n)

/-- `r` holds the low `n` bytes of `a` in the opposite order, the bits above them zero (R15, R211). -/
def reversedBytes (n : Nat) (a r : Word) : Prop :=
  r.toNat < 2 ^ (8 * n) ∧ ∀ k < n, r.extractLsb' (8 * k) 8 = a.extractLsb' (8 * (n - 1 - k)) 8

/-- The class of an instruction, `opcode[2:0]` of its encoding (R97, R98). -/
def classOf (i : Instr) : Nat := ((encode i).1.extractLsb' 0 3).toNat

/-- The opcode byte of an instruction's encoding (R91). -/
def opcodeOf (i : Instr) : Byte := (encode i).1.extractLsb' 0 8

/-- The state on a host of the given byte order. -/
def State.onHost (s : State) (e : Endian) : State := { s with plat := { s.plat with endian := e } }

/-- `CALL` in its three kinds and `EXIT`, the only jumps that touch more than `pc` (R236). -/
def isCallOrExit (i : Instr) : Bool := opcodeOf i == 0x85 || opcodeOf i == 0x95

end Sys2Proof.Machine
end

