-- ==== Sys2Proof/Certificates/Slice0/Obligations.lean ====
section
/-! DEFINITION. Certificates/Slice0/Obligations.lean: the statements about the machine that the provers settle. The tables
`readsOf`, `writesOf` and `accessOf`, the integer formulas and the descriptions of next states that they use are in
Sys2Proof/Safety.lean. -/

section

open Sys2Proof Sys2Proof.Machine

/-- Decoding the bytes of an encoded instruction gives it back, on either host (R91, R92, R93, R95, R96, R118). For every
well-formed instruction, either byte order and any bytes after it, decoding the bytes that the encoder writes,
followed by those bytes, answers the instruction and the bytes after it. No bit of an operand is dropped by either
byte layout. -/
def Obligations.DecodingBytesUndoesEncoding : Prop :=
  ∀ (e : Endian) (i : Instr) (rest : List Byte), i.wellFormed = true →
    decodeBytes e (encodeBytes e i ++ rest) = .ok (i, rest)

/-- A word that decodes is the encoding of what it decodes to (R91, R109, R118, R119, R120). If a slot word (with the word
after it) decodes to an instruction, the instruction is well formed, its encoding is that word, and for a wide
instruction the encoding of its second slot is the word after it. So every bit of the word is accounted for: no unused
bit is ignored, and no two words decode to one instruction. -/
def Obligations.EncodingUndoesDecoding : Prop :=
  ∀ (w : BitVec 64) (second : Option (BitVec 64)) (i : Instr), decodeWords w second = .ok i →
    i.wellFormed = true ∧ (encode i).1 = w ∧ (encode i).2 = if i.slots = 2 then second else none

/-- The eight bytes of a slot on a little-endian and on a big-endian host (R92, R93). For every five fields, the slot that
holds their word has the bytes that R93 lists: opcode first on both hosts; src ++ dst and low bytes first on a little-
endian host; dst ++ src and high bytes first on a big-endian host; and reading the slot on the same host gives the
word back. -/
def Obligations.SlotBytesOfFields : Prop :=
  ∀ f : Fields,
    Slot.ofWord .little f.word =
      ⟨f.opcode, f.src ++ f.dst, f.offset.extractLsb' 0 8, f.offset.extractLsb' 8 8,
        f.imm.extractLsb' 0 8, f.imm.extractLsb' 8 8, f.imm.extractLsb' 16 8, f.imm.extractLsb' 24 8⟩ ∧
    Slot.ofWord .big f.word =
      ⟨f.opcode, f.dst ++ f.src, f.offset.extractLsb' 8 8, f.offset.extractLsb' 0 8,
        f.imm.extractLsb' 24 8, f.imm.extractLsb' 16 8, f.imm.extractLsb' 8 8, f.imm.extractLsb' 0 8⟩ ∧
    ∀ e : Endian, (Slot.ofWord e f.word).word e = f.word

/-- Words written out from the encodings decode to their instructions (R94, R110, R111, R112, R113, R114, R297, R299,
R365, R379, 30_encoding.md section 4, opcode_table.json). One word for each family, written out from the spec's opcode
tables (R110 to R114) and from the encoding line of each instruction's rule: r1 += 0x11223344 (R94 gives the whole
word), le16 (R112, R215), goto (R111, R250), call +imm (R111, R114, R297), exit (R111, R299), ldxw (R113, R310), an
atomic fetch-add (R113, R114, R341), lddw with its second slot (R113, R365), and a legacy packet load (R113, R379). -/
def Obligations.SpecWordsDecode : Prop :=
  decodeWords 0x1122334400000107 none = .ok (.add64Imm .r1 0x11223344) ∧
    decodeWords 0x00000010000001d4 none = .ok (.le16 .r1) ∧
    decodeWords 0x00000000fffb0005 none = .ok (.ja 0xfffb) ∧
    decodeWords 0x0000000400001085 none = .ok (.callLocal 4) ∧
    decodeWords 0x0000000000000095 none = .ok .exit ∧
    decodeWords 0x00000000fffc2161 none = .ok (.ldxw .r1 .r2 0xfffc) ∧
    decodeWords 0x00000001000821c3 none = .ok (.atomicFetchAdd32 .r1 .r2 8) ∧
    decodeWords 0x89abcdef00000118 (some 0x0123456700000000) = .ok (.lddw .r1 0x89abcdef 0x01234567) ∧
    decodeWords 0x0000000e00000020 none = .ok (.ldabsw 14)

/-- An instruction of an unsupported conformance group is illegal (R121). A slot that decodes to an instruction decodes
for a platform to the same instruction if its group, or a group that includes it (base64 includes base32, atomic64
atomic32, divmul64 divmul32), is among the platform's groups, and else to Illegal(unsupported group). -/
def Obligations.GroupsFilterDecoding : Prop :=
  ∀ (p : Platform) (a : Slot) (b : Option Slot) (i : Instr), decodeSlots p.endian a b = .ok i →
    (i.group ∈ p.groups ∨ (i.group = .base32 ∧ .base64 ∈ p.groups) ∨ (i.group = .atomic32 ∧ .atomic64 ∈ p.groups) ∨
        (i.group = .divmul32 ∧ .divmul64 ∈ p.groups) →
      decodeFor p a b = .ok i) ∧
    (i.group ∉ p.groups → ¬(i.group = .base32 ∧ .base64 ∈ p.groups) →
        ¬(i.group = .atomic32 ∧ .atomic64 ∈ p.groups) → ¬(i.group = .divmul32 ∧ .divmul64 ∈ p.groups) →
      decodeFor p a b = .error .unsupportedGroup)

/-- A step runs the instruction at pc (R43, R57, R66, R118, R405). If the run is going on, pc is the first slot of an
instruction of the program, and that slot with the one after it decodes for the platform to an instruction, the step
is the meaning of that instruction on the state after the other agents' turn. -/
def Obligations.StepRunsDecodedInstruction : Prop :=
  ∀ (s : State) (i : Instr), s.status = .running → s.isTarget s.pc = true →
    decodeFor s.plat (s.slotAt s.pc.toNat) (s.slotAt? (s.pc.toNat + 1)) = .ok i →
    step s = exec i s.envTurn

/-- What a step answers where it runs no instruction (R43, R404, R405, R417). A run that has ended takes no step (R43);
that step, being a total function, answers the refusal runEnded there is the MODEL'S choice (log entry 10, DEDUCED). A
pc that is no first slot of an instruction faults as BadJumpTarget(pc). A slot that does not decode for the platform
faults as IllegalInstruction(pc) with the reason. -/
def Obligations.StepFaultsAtFetchAndDecode : Prop :=
  ∀ (s : State) (why : Illegal),
    (s.status ≠ .running → step s = .refused .runEnded) ∧
    (s.status = .running → s.isTarget s.pc = false → step s = .fault (.badJumpTarget s.pc)) ∧
    (s.status = .running → s.isTarget s.pc = true →
      decodeFor s.plat (s.slotAt s.pc.toNat) (s.slotAt? (s.pc.toNat + 1)) = .error why →
      step s = .fault (.illegalInstruction s.pc why))

/-- Which slots are first slots (R33, R35, R405). No slot below 0 or from N on is a target. Slot 0 of a program that has
one is. A later slot of the program is one unless the slot before it is a target and has the wide opcode 0x18, that
is, unless it is a second half. -/
def Obligations.TargetsAreFirstSlots : Prop :=
  ∀ (s : State),
    (∀ t : Int, t < 0 ∨ (s.prog.length : Int) ≤ t → s.isTarget t = false) ∧
    (0 < s.prog.length → s.isTarget 0 = true) ∧
    ∀ n : Nat, n + 1 < s.prog.length →
      s.isTarget (n + 1 : Nat) = !(s.isTarget n && (s.slotAt n).b0 == 0x18)

/-- ADD, SUB and MUL: the wrapped sum, difference and product (R131, R132, R133, 40_alu.md section 2). For every state in
which the operand registers hold values, each of the twelve forms answers the next state in which dst holds the sum,
difference or product of the unsigned readings reduced modulo 2^w (zero extended at 32 bits; the immediate as it is at
32 bits and sign extended at 64), pc is one slot on, and nothing else has changed. -/
def Obligations.AddSubMulResults : Prop :=
  ∀ (s : State) (d q : Reg) (a b : Word) (imm : BitVec 32), s.reg d = some a → s.reg q = some b →
    exec (.add32Imm d imm) s = .next (s.updated d (sumOf 32 a (imm.setWidth 64)) 1) ∧
    exec (.add32Reg d q) s = .next (s.updated d (sumOf 32 a b) 1) ∧
    exec (.add64Imm d imm) s = .next (s.updated d (sumOf 64 a (imm.signExtend 64)) 1) ∧
    exec (.add64Reg d q) s = .next (s.updated d (sumOf 64 a b) 1) ∧
    exec (.sub32Imm d imm) s = .next (s.updated d (differenceOf 32 a (imm.setWidth 64)) 1) ∧
    exec (.sub32Reg d q) s = .next (s.updated d (differenceOf 32 a b) 1) ∧
    exec (.sub64Imm d imm) s = .next (s.updated d (differenceOf 64 a (imm.signExtend 64)) 1) ∧
    exec (.sub64Reg d q) s = .next (s.updated d (differenceOf 64 a b) 1) ∧
    exec (.mul32Imm d imm) s = .next (s.updated d (productOf 32 a (imm.setWidth 64)) 1) ∧
    exec (.mul32Reg d q) s = .next (s.updated d (productOf 32 a b) 1) ∧
    exec (.mul64Imm d imm) s = .next (s.updated d (productOf 64 a (imm.signExtend 64)) 1) ∧
    exec (.mul64Reg d q) s = .next (s.updated d (productOf 64 a b) 1)

/-- DIV and MOD: unsigned, zero divisors included (R132, R134, R135, 40_alu.md section 2, 40_alu_part2.md). For every
state in which the operand registers hold values, each of the eight forms of DIV and MOD answers the next state in
which dst holds floor(a / b) (0 for b = 0), or a - b * floor(a / b) (a for b = 0, its upper half zeroed at 32 bits);
pc is one slot on and nothing else has changed. -/
def Obligations.UnsignedDivisionResults : Prop :=
  ∀ (s : State) (d q : Reg) (a b : Word) (imm : BitVec 32), s.reg d = some a → s.reg q = some b →
    exec (.div32Imm d imm) s = .next (s.updated d (quotientOf 32 a (imm.setWidth 64)) 1) ∧
    exec (.div32Reg d q) s = .next (s.updated d (quotientOf 32 a b) 1) ∧
    exec (.div64Imm d imm) s = .next (s.updated d (quotientOf 64 a (imm.signExtend 64)) 1) ∧
    exec (.div64Reg d q) s = .next (s.updated d (quotientOf 64 a b) 1) ∧
    exec (.mod32Imm d imm) s = .next (s.updated d (remainderOf 32 a (imm.setWidth 64)) 1) ∧
    exec (.mod32Reg d q) s = .next (s.updated d (remainderOf 32 a b) 1) ∧
    exec (.mod64Imm d imm) s = .next (s.updated d (remainderOf 64 a (imm.signExtend 64)) 1) ∧
    exec (.mod64Reg d q) s = .next (s.updated d (remainderOf 64 a b) 1)

/-- SDIV and SMOD: truncated, zero divisors and overflow included (R132, R134, R135, 40_alu.md section 2,
40_alu_part2.md). For every state in which the operand registers hold values, each of the eight forms of SDIV and SMOD
answers the next state in which dst holds trunc(sw(a) / sw(b)) wrapped (0 for b = 0), or sw(a) - sw(b) * trunc(sw(a) /
sw(b)) wrapped (a for b = 0); pc is one slot on and nothing else has changed. -/
def Obligations.SignedDivisionResults : Prop :=
  ∀ (s : State) (d q : Reg) (a b : Word) (imm : BitVec 32), s.reg d = some a → s.reg q = some b →
    exec (.sdiv32Imm d imm) s = .next (s.updated d (signedQuotientOf 32 a (imm.setWidth 64)) 1) ∧
    exec (.sdiv32Reg d q) s = .next (s.updated d (signedQuotientOf 32 a b) 1) ∧
    exec (.sdiv64Imm d imm) s = .next (s.updated d (signedQuotientOf 64 a (imm.signExtend 64)) 1) ∧
    exec (.sdiv64Reg d q) s = .next (s.updated d (signedQuotientOf 64 a b) 1) ∧
    exec (.smod32Imm d imm) s = .next (s.updated d (signedRemainderOf 32 a (imm.setWidth 64)) 1) ∧
    exec (.smod32Reg d q) s = .next (s.updated d (signedRemainderOf 32 a b) 1) ∧
    exec (.smod64Imm d imm) s = .next (s.updated d (signedRemainderOf 64 a (imm.signExtend 64)) 1) ∧
    exec (.smod64Reg d q) s = .next (s.updated d (signedRemainderOf 64 a b) 1)

/-- The most negative value divided by -1 (R135). At both widths SDIV of the most negative value by -1 gives the most
negative value, and SMOD gives 0, and the machine goes on; the immediate form of -1 as well as a register of all ones. -/
def Obligations.SignedDivisionOverflowWraps : Prop :=
  ∀ (s : State) (d q : Reg) (a b : Word), s.reg d = some a → s.reg q = some b →
    (a.toNat % 2 ^ 32 = 2 ^ 31 → b.toNat % 2 ^ 32 = 2 ^ 32 - 1 →
      exec (.sdiv32Reg d q) s = .next (s.updated d 0x80000000 1) ∧
      exec (.smod32Reg d q) s = .next (s.updated d 0 1) ∧
      exec (.sdiv32Imm d 0xffffffff) s = .next (s.updated d 0x80000000 1) ∧
      exec (.smod32Imm d 0xffffffff) s = .next (s.updated d 0 1)) ∧
    (a = 0x8000000000000000 → b = 0xffffffffffffffff →
      exec (.sdiv64Reg d q) s = .next (s.updated d 0x8000000000000000 1) ∧
      exec (.smod64Reg d q) s = .next (s.updated d 0 1) ∧
      exec (.sdiv64Imm d 0xffffffff) s = .next (s.updated d 0x8000000000000000 1) ∧
      exec (.smod64Imm d 0xffffffff) s = .next (s.updated d 0 1))

/-- OR, AND and XOR (R131, R132, 40_alu.md section 2, 40_alu_part2.md). For every state in which the operand registers
hold values, each of the twelve forms answers the next state in which dst holds the low w bits of the bitwise result,
the bits above them zero; pc is one slot on and nothing else has changed. -/
def Obligations.BitwiseResults : Prop :=
  ∀ (s : State) (d q : Reg) (a b : Word) (imm : BitVec 32), s.reg d = some a → s.reg q = some b →
    exec (.or32Imm d imm) s = .next (s.updated d (wrap 32 (uw 32 (a ||| imm.setWidth 64))) 1) ∧
    exec (.or32Reg d q) s = .next (s.updated d (wrap 32 (uw 32 (a ||| b))) 1) ∧
    exec (.or64Imm d imm) s = .next (s.updated d (wrap 64 (uw 64 (a ||| imm.signExtend 64))) 1) ∧
    exec (.or64Reg d q) s = .next (s.updated d (wrap 64 (uw 64 (a ||| b))) 1) ∧
    exec (.and32Imm d imm) s = .next (s.updated d (wrap 32 (uw 32 (a &&& imm.setWidth 64))) 1) ∧
    exec (.and32Reg d q) s = .next (s.updated d (wrap 32 (uw 32 (a &&& b))) 1) ∧
    exec (.and64Imm d imm) s = .next (s.updated d (wrap 64 (uw 64 (a &&& imm.signExtend 64))) 1) ∧
    exec (.and64Reg d q) s = .next (s.updated d (wrap 64 (uw 64 (a &&& b))) 1) ∧
    exec (.xor32Imm d imm) s = .next (s.updated d (wrap 32 (uw 32 (a ^^^ imm.setWidth 64))) 1) ∧
    exec (.xor32Reg d q) s = .next (s.updated d (wrap 32 (uw 32 (a ^^^ b))) 1) ∧
    exec (.xor64Imm d imm) s = .next (s.updated d (wrap 64 (uw 64 (a ^^^ imm.signExtend 64))) 1) ∧
    exec (.xor64Reg d q) s = .next (s.updated d (wrap 64 (uw 64 (a ^^^ b))) 1)

/-- LSH, RSH and ARSH: the count masked, immediate or register (R132, R136, 40_alu_part2.md). For every state in which the
operand registers hold values, each of the twelve forms answers the next state in which dst holds a * 2^n mod 2^w,
floor(a / 2^n) or floor(sw(a) / 2^n) mod 2^w, with n the count modulo w whatever it is; pc is one slot on and nothing
else has changed. -/
def Obligations.ShiftResults : Prop :=
  ∀ (s : State) (d q : Reg) (a b : Word) (imm : BitVec 32), s.reg d = some a → s.reg q = some b →
    exec (.lsh32Imm d imm) s = .next (s.updated d (shiftedLeft 32 a (imm.setWidth 64)) 1) ∧
    exec (.lsh32Reg d q) s = .next (s.updated d (shiftedLeft 32 a b) 1) ∧
    exec (.lsh64Imm d imm) s = .next (s.updated d (shiftedLeft 64 a (imm.signExtend 64)) 1) ∧
    exec (.lsh64Reg d q) s = .next (s.updated d (shiftedLeft 64 a b) 1) ∧
    exec (.rsh32Imm d imm) s = .next (s.updated d (shiftedRight 32 a (imm.setWidth 64)) 1) ∧
    exec (.rsh32Reg d q) s = .next (s.updated d (shiftedRight 32 a b) 1) ∧
    exec (.rsh64Imm d imm) s = .next (s.updated d (shiftedRight 64 a (imm.signExtend 64)) 1) ∧
    exec (.rsh64Reg d q) s = .next (s.updated d (shiftedRight 64 a b) 1) ∧
    exec (.arsh32Imm d imm) s = .next (s.updated d (shiftedRightSigned 32 a (imm.setWidth 64)) 1) ∧
    exec (.arsh32Reg d q) s = .next (s.updated d (shiftedRightSigned 32 a b) 1) ∧
    exec (.arsh64Imm d imm) s = .next (s.updated d (shiftedRightSigned 64 a (imm.signExtend 64)) 1) ∧
    exec (.arsh64Reg d q) s = .next (s.updated d (shiftedRightSigned 64 a b) 1)

/-- MOV, MOVSX and NEG (R29, R132, R137, R138, 40_alu_part2.md). For every state in which the register that is read holds
a value, each form of MOV, MOVSX and NEG answers the next state: MOV copies the immediate or register (MOV does not
read dst), MOVSX the signed reading of the low 8, 16 or 32 bits reduced to the class's width, NEG the wrapped
difference 0 - dst; pc is one slot on and nothing else has changed. -/
def Obligations.MoveAndNegResults : Prop :=
  ∀ (s : State) (d q : Reg) (b : Word) (imm : BitVec 32),
    exec (.mov32Imm d imm) s = .next (s.updated d (imm.setWidth 64) 1) ∧
    exec (.mov64Imm d imm) s = .next (s.updated d (imm.signExtend 64) 1) ∧
    (s.reg q = some b →
      exec (.mov32Reg d q) s = .next (s.updated d (wrap 32 (uw 32 b)) 1) ∧
      exec (.mov64Reg d q) s = .next (s.updated d b 1) ∧
      exec (.movsx32From8 d q) s = .next (s.updated d (wrap 32 (sw 8 b)) 1) ∧
      exec (.movsx32From16 d q) s = .next (s.updated d (wrap 32 (sw 16 b)) 1) ∧
      exec (.movsx64From8 d q) s = .next (s.updated d (wrap 64 (sw 8 b)) 1) ∧
      exec (.movsx64From16 d q) s = .next (s.updated d (wrap 64 (sw 16 b)) 1) ∧
      exec (.movsx64From32 d q) s = .next (s.updated d (wrap 64 (sw 32 b)) 1) ∧
      exec (.neg32 q) s = .next (s.updated q (wrap 32 (0 - uw 32 b)) 1) ∧
      exec (.neg64 q) s = .next (s.updated q (wrap 64 (0 - uw 64 b)) 1))

/-- The byte swaps, on either host (R15, R210, R211, R212, 41_byteswap.md section 2). For every state in which dst holds a
value: on a little-endian host le16, le32, le64 keep the low bytes and be16, be32, be64 reverse them; on a big-endian
host the other way round; bswap16, bswap32, bswap64 reverse them on either host. The result is zero extended, pc is
one slot on and nothing else has changed. -/
def Obligations.SwapResults : Prop :=
  ∀ (s : State) (d : Reg) (a : Word), s.reg d = some a →
    (s.plat.endian = .little →
      (∃ r, keptBytes 2 a r ∧ exec (.le16 d) s = .next (s.updated d r 1)) ∧
      (∃ r, keptBytes 4 a r ∧ exec (.le32 d) s = .next (s.updated d r 1)) ∧
      (∃ r, keptBytes 8 a r ∧ exec (.le64 d) s = .next (s.updated d r 1)) ∧
      (∃ r, reversedBytes 2 a r ∧ exec (.be16 d) s = .next (s.updated d r 1)) ∧
      (∃ r, reversedBytes 4 a r ∧ exec (.be32 d) s = .next (s.updated d r 1)) ∧
      (∃ r, reversedBytes 8 a r ∧ exec (.be64 d) s = .next (s.updated d r 1))) ∧
    (s.plat.endian = .big →
      (∃ r, reversedBytes 2 a r ∧ exec (.le16 d) s = .next (s.updated d r 1)) ∧
      (∃ r, reversedBytes 4 a r ∧ exec (.le32 d) s = .next (s.updated d r 1)) ∧
      (∃ r, reversedBytes 8 a r ∧ exec (.le64 d) s = .next (s.updated d r 1)) ∧
      (∃ r, keptBytes 2 a r ∧ exec (.be16 d) s = .next (s.updated d r 1)) ∧
      (∃ r, keptBytes 4 a r ∧ exec (.be32 d) s = .next (s.updated d r 1)) ∧
      (∃ r, keptBytes 8 a r ∧ exec (.be64 d) s = .next (s.updated d r 1))) ∧
    (∃ r, reversedBytes 2 a r ∧ exec (.bswap16 d) s = .next (s.updated d r 1)) ∧
    (∃ r, reversedBytes 4 a r ∧ exec (.bswap32 d) s = .next (s.updated d r 1)) ∧
    (∃ r, reversedBytes 8 a r ∧ exec (.bswap64 d) s = .next (s.updated d r 1))

/-- A byte swap applied twice leaves the truncated operand (R211, R212, R215, R223). For each of the nine byte swaps:
executed on a state in which dst holds a value it answers a next state, and executed again it answers the state in
which dst holds the low 16, 32 or 64 bits of that value, two slots on, nothing else changed. -/
def Obligations.SwapTwiceTruncates : Prop :=
  ∀ (s : State) (d : Reg) (a : Word), s.reg d = some a →
    (∃ t, exec (.le16 d) s = .next t ∧ exec (.le16 d) t = .next (s.updated d (wrap 16 (uw 16 a)) 2)) ∧
    (∃ t, exec (.le32 d) s = .next t ∧ exec (.le32 d) t = .next (s.updated d (wrap 32 (uw 32 a)) 2)) ∧
    (∃ t, exec (.le64 d) s = .next t ∧ exec (.le64 d) t = .next (s.updated d (wrap 64 (uw 64 a)) 2)) ∧
    (∃ t, exec (.be16 d) s = .next t ∧ exec (.be16 d) t = .next (s.updated d (wrap 16 (uw 16 a)) 2)) ∧
    (∃ t, exec (.be32 d) s = .next t ∧ exec (.be32 d) t = .next (s.updated d (wrap 32 (uw 32 a)) 2)) ∧
    (∃ t, exec (.be64 d) s = .next t ∧ exec (.be64 d) t = .next (s.updated d (wrap 64 (uw 64 a)) 2)) ∧
    (∃ t, exec (.bswap16 d) s = .next t ∧ exec (.bswap16 d) t = .next (s.updated d (wrap 16 (uw 16 a)) 2)) ∧
    (∃ t, exec (.bswap32 d) s = .next t ∧ exec (.bswap32 d) t = .next (s.updated d (wrap 32 (uw 32 a)) 2)) ∧
    (∃ t, exec (.bswap64 d) s = .next t ∧ exec (.bswap64 d) t = .next (s.updated d (wrap 64 (uw 64 a)) 2))

/-- A 32-bit instruction zeroes the upper half of its destination (R131, R211). If an instruction of class ALU other than
the 64-bit swaps le64 and be64 answers a next state, the one register it writes holds a value below 2^32. -/
def Obligations.ThirtyTwoBitResultsZeroTheUpperHalf : Prop :=
  ∀ (i : Instr) (s t : State), classOf i = 4 → i.group ≠ .base64 → exec i s = .next t →
    ∃ r v, writesOf i = [r] ∧ t.reg r = some v ∧ v.toNat < 2 ^ 32

/-- The 22 conditional jumps of class JMP (R230, R231, R232, R233, 42_jump_conditional.md). For every state in which the
operand registers hold values, each conditional jump of class JMP answers the state with pc at pc + 1 + offset if its
condition holds between the 64-bit operands (the immediate sign extended), read unsigned or signed as the table of
R233 says, and at pc + 1 if not; nothing else has changed. -/
def Obligations.ConditionalJumps64 : Prop :=
  ∀ (s : State) (d q : Reg) (a b : Word) (imm : BitVec 32) (off : BitVec 16), s.reg d = some a → s.reg q = some b →
    exec (.jeq64Imm d imm off) s =
      .next (s.movedTo (if uw 64 a = uw 64 (imm.signExtend 64) then s.pc + 1 + off.toInt else s.pc + 1)) ∧
    exec (.jeq64Reg d q off) s =
      .next (s.movedTo (if uw 64 a = uw 64 b then s.pc + 1 + off.toInt else s.pc + 1)) ∧
    exec (.jne64Imm d imm off) s =
      .next (s.movedTo (if uw 64 a ≠ uw 64 (imm.signExtend 64) then s.pc + 1 + off.toInt else s.pc + 1)) ∧
    exec (.jne64Reg d q off) s =
      .next (s.movedTo (if uw 64 a ≠ uw 64 b then s.pc + 1 + off.toInt else s.pc + 1)) ∧
    exec (.jset64Imm d imm off) s =
      .next (s.movedTo (if uw 64 (a &&& (imm.signExtend 64)) ≠ 0 then s.pc + 1 + off.toInt else s.pc + 1)) ∧
    exec (.jset64Reg d q off) s =
      .next (s.movedTo (if uw 64 (a &&& b) ≠ 0 then s.pc + 1 + off.toInt else s.pc + 1)) ∧
    exec (.jgt64Imm d imm off) s =
      .next (s.movedTo (if uw 64 a > uw 64 (imm.signExtend 64) then s.pc + 1 + off.toInt else s.pc + 1)) ∧
    exec (.jgt64Reg d q off) s =
      .next (s.movedTo (if uw 64 a > uw 64 b then s.pc + 1 + off.toInt else s.pc + 1)) ∧
    exec (.jge64Imm d imm off) s =
      .next (s.movedTo (if uw 64 a ≥ uw 64 (imm.signExtend 64) then s.pc + 1 + off.toInt else s.pc + 1)) ∧
    exec (.jge64Reg d q off) s =
      .next (s.movedTo (if uw 64 a ≥ uw 64 b then s.pc + 1 + off.toInt else s.pc + 1)) ∧
    exec (.jlt64Imm d imm off) s =
      .next (s.movedTo (if uw 64 a < uw 64 (imm.signExtend 64) then s.pc + 1 + off.toInt else s.pc + 1)) ∧
    exec (.jlt64Reg d q off) s =
      .next (s.movedTo (if uw 64 a < uw 64 b then s.pc + 1 + off.toInt else s.pc + 1)) ∧
    exec (.jle64Imm d imm off) s =
      .next (s.movedTo (if uw 64 a ≤ uw 64 (imm.signExtend 64) then s.pc + 1 + off.toInt else s.pc + 1)) ∧
    exec (.jle64Reg d q off) s =
      .next (s.movedTo (if uw 64 a ≤ uw 64 b then s.pc + 1 + off.toInt else s.pc + 1)) ∧
    exec (.jsgt64Imm d imm off) s =
      .next (s.movedTo (if sw 64 a > sw 64 (imm.signExtend 64) then s.pc + 1 + off.toInt else s.pc + 1)) ∧
    exec (.jsgt64Reg d q off) s =
      .next (s.movedTo (if sw 64 a > sw 64 b then s.pc + 1 + off.toInt else s.pc + 1)) ∧
    exec (.jsge64Imm d imm off) s =
      .next (s.movedTo (if sw 64 a ≥ sw 64 (imm.signExtend 64) then s.pc + 1 + off.toInt else s.pc + 1)) ∧
    exec (.jsge64Reg d q off) s =
      .next (s.movedTo (if sw 64 a ≥ sw 64 b then s.pc + 1 + off.toInt else s.pc + 1)) ∧
    exec (.jslt64Imm d imm off) s =
      .next (s.movedTo (if sw 64 a < sw 64 (imm.signExtend 64) then s.pc + 1 + off.toInt else s.pc + 1)) ∧
    exec (.jslt64Reg d q off) s =
      .next (s.movedTo (if sw 64 a < sw 64 b then s.pc + 1 + off.toInt else s.pc + 1)) ∧
    exec (.jsle64Imm d imm off) s =
      .next (s.movedTo (if sw 64 a ≤ sw 64 (imm.signExtend 64) then s.pc + 1 + off.toInt else s.pc + 1)) ∧
    exec (.jsle64Reg d q off) s =
      .next (s.movedTo (if sw 64 a ≤ sw 64 b then s.pc + 1 + off.toInt else s.pc + 1))

/-- The 22 conditional jumps of class JMP32 (R230, R231, R232, R233, 42_jump_conditional.md). For every state in which the
operand registers hold values, each conditional jump of class JMP32 answers the state with pc at pc + 1 + offset if
its condition holds between the 32-bit operands (the immediate as it is), read unsigned or signed as the table of R233
says, and at pc + 1 if not; nothing else has changed. -/
def Obligations.ConditionalJumps32 : Prop :=
  ∀ (s : State) (d q : Reg) (a b : Word) (imm : BitVec 32) (off : BitVec 16), s.reg d = some a → s.reg q = some b →
    exec (.jeq32Imm d imm off) s =
      .next (s.movedTo (if uw 32 a = uw 32 (imm.setWidth 64) then s.pc + 1 + off.toInt else s.pc + 1)) ∧
    exec (.jeq32Reg d q off) s =
      .next (s.movedTo (if uw 32 a = uw 32 b then s.pc + 1 + off.toInt else s.pc + 1)) ∧
    exec (.jne32Imm d imm off) s =
      .next (s.movedTo (if uw 32 a ≠ uw 32 (imm.setWidth 64) then s.pc + 1 + off.toInt else s.pc + 1)) ∧
    exec (.jne32Reg d q off) s =
      .next (s.movedTo (if uw 32 a ≠ uw 32 b then s.pc + 1 + off.toInt else s.pc + 1)) ∧
    exec (.jset32Imm d imm off) s =
      .next (s.movedTo (if uw 32 (a &&& (imm.setWidth 64)) ≠ 0 then s.pc + 1 + off.toInt else s.pc + 1)) ∧
    exec (.jset32Reg d q off) s =
      .next (s.movedTo (if uw 32 (a &&& b) ≠ 0 then s.pc + 1 + off.toInt else s.pc + 1)) ∧
    exec (.jgt32Imm d imm off) s =
      .next (s.movedTo (if uw 32 a > uw 32 (imm.setWidth 64) then s.pc + 1 + off.toInt else s.pc + 1)) ∧
    exec (.jgt32Reg d q off) s =
      .next (s.movedTo (if uw 32 a > uw 32 b then s.pc + 1 + off.toInt else s.pc + 1)) ∧
    exec (.jge32Imm d imm off) s =
      .next (s.movedTo (if uw 32 a ≥ uw 32 (imm.setWidth 64) then s.pc + 1 + off.toInt else s.pc + 1)) ∧
    exec (.jge32Reg d q off) s =
      .next (s.movedTo (if uw 32 a ≥ uw 32 b then s.pc + 1 + off.toInt else s.pc + 1)) ∧
    exec (.jlt32Imm d imm off) s =
      .next (s.movedTo (if uw 32 a < uw 32 (imm.setWidth 64) then s.pc + 1 + off.toInt else s.pc + 1)) ∧
    exec (.jlt32Reg d q off) s =
      .next (s.movedTo (if uw 32 a < uw 32 b then s.pc + 1 + off.toInt else s.pc + 1)) ∧
    exec (.jle32Imm d imm off) s =
      .next (s.movedTo (if uw 32 a ≤ uw 32 (imm.setWidth 64) then s.pc + 1 + off.toInt else s.pc + 1)) ∧
    exec (.jle32Reg d q off) s =
      .next (s.movedTo (if uw 32 a ≤ uw 32 b then s.pc + 1 + off.toInt else s.pc + 1)) ∧
    exec (.jsgt32Imm d imm off) s =
      .next (s.movedTo (if sw 32 a > sw 32 (imm.setWidth 64) then s.pc + 1 + off.toInt else s.pc + 1)) ∧
    exec (.jsgt32Reg d q off) s =
      .next (s.movedTo (if sw 32 a > sw 32 b then s.pc + 1 + off.toInt else s.pc + 1)) ∧
    exec (.jsge32Imm d imm off) s =
      .next (s.movedTo (if sw 32 a ≥ sw 32 (imm.setWidth 64) then s.pc + 1 + off.toInt else s.pc + 1)) ∧
    exec (.jsge32Reg d q off) s =
      .next (s.movedTo (if sw 32 a ≥ sw 32 b then s.pc + 1 + off.toInt else s.pc + 1)) ∧
    exec (.jslt32Imm d imm off) s =
      .next (s.movedTo (if sw 32 a < sw 32 (imm.setWidth 64) then s.pc + 1 + off.toInt else s.pc + 1)) ∧
    exec (.jslt32Reg d q off) s =
      .next (s.movedTo (if sw 32 a < sw 32 b then s.pc + 1 + off.toInt else s.pc + 1)) ∧
    exec (.jsle32Imm d imm off) s =
      .next (s.movedTo (if sw 32 a ≤ sw 32 (imm.setWidth 64) then s.pc + 1 + off.toInt else s.pc + 1)) ∧
    exec (.jsle32Reg d q off) s =
      .next (s.movedTo (if sw 32 a ≤ sw 32 b then s.pc + 1 + off.toInt else s.pc + 1))

/-- ja and ja32 (R34, R232, R234, R250, R251). In every state, goto offset answers the state with pc at pc + 1 + offset,
the offset signed and 16 bits wide, and gotol imm the state with pc at pc + 1 + imm, the immediate signed and 32 bits
wide; the target is an integer that does not wrap, and nothing else has changed. -/
def Obligations.UnconditionalJumps : Prop :=
  ∀ (s : State) (off : BitVec 16) (imm : BitVec 32),
    exec (.ja off) s = .next (s.movedTo (s.pc + 1 + off.toInt)) ∧
    exec (.ja32 imm) s = .next (s.movedTo (s.pc + 1 + imm.toInt))

/-- call_local: what it saves and what the callee finds (R34, R36, R248, R297, R442). With at most MAX_CALL_DEPTH frames
alive afterwards, call_local answers a next state: the return slot pc + 1 and R6 to R9 are pushed, R1 to R5 are
unchanged, R0 and R6 to R9 hold no value, R10 is the top of the new frame's stack, pc is pc + 1 + imm, the status and
the parameters are unchanged, and every byte outside the new frame's stack reads as before. The two fields about
draws, draws and nextDraw, are the MODEL'S own (log entry 5): the new frame's stack takes the next draw in place of an
earlier one of the same stack. -/
def Obligations.LocalCallEntersFrame : Prop :=
  ∀ (s : State) (imm : BitVec 32), s.frames.length + 2 ≤ s.plat.maxCallDepth →
    ∃ t, exec (.callLocal imm) s = .next t ∧
      t = { s with
        regs := ⟨none, s.regs.r1, s.regs.r2, s.regs.r3, s.regs.r4, s.regs.r5, none, none, none, none,
          some (s.frameTop (s.frames.length + 1))⟩
        frames := ⟨s.pc + 1, s.regs.r6, s.regs.r7, s.regs.r8, s.regs.r9⟩ :: s.frames
        pc := s.pc + 1 + imm.toInt
        mem := t.mem
        draws := (s.frameTop (s.frames.length + 1), s.nextDraw) ::
          s.draws.filter fun t => decide (t.1 ≠ s.frameTop (s.frames.length + 1))
        nextDraw := s.nextDraw + 1 } ∧
      ∀ a, s.inStack (s.frameTop (s.frames.length + 1)) a 1 = false → t.byteAt a = s.byteAt a

/-- call_local faults exactly when one frame more would exceed the limit (R410). call_local raises CallDepthExceeded if
and only if the number of frames plus 2 exceeds MAX_CALL_DEPTH, whatever the registers hold; then there is no next
state, so nothing is pushed. -/
def Obligations.LocalCallDepthLimit : Prop :=
  ∀ (s : State) (imm : BitVec 32),
    exec (.callLocal imm) s = .fault .callDepthExceeded ↔ s.frames.length + 2 > s.plat.maxCallDepth

/-- The bytes of a fresh frame's stack are a new draw (the model's choice) (70_reset_and_hazards.md section 1, 10_state.md
section 2). After call_local every byte of the new frame's stack, whatever was stored there before, reads as the free
byte of the draw that the call took (Config.drawByte, of which nothing can be proved). That the bytes are replaced, by
a draw of these names, is the MODEL'S choice (log entry 5, DESIGN CHOICE), not a rule: R442 says that the bytes are
arbitrary and allows "a model that leaves the bytes an earlier frame at the same depth wrote", and that "no claim may
depend on which". -/
def Obligations.FreshStackIsUnwritten : Prop :=
  ∀ (s t : State) (imm : BitVec 32) (a : Nat), exec (.callLocal imm) s = .next t →
    s.inStack (s.frameTop (s.frames.length + 1)) a 1 = true → t.byteAt a = Config.drawByte s.nextDraw a

/-- exit in a called function (R34, R249, R299). With R0 holding a value and a frame on the call stack, exit answers a
next state: pc is the recorded return slot, R6 to R9 are as recorded, R1 to R5 hold no value, R0 is kept, R10 is the
top of the caller's stack, the frame is popped, and nothing else has changed: every byte of memory reads as before. -/
def Obligations.ExitReturnsToCaller : Prop :=
  ∀ (s : State) (v : Word) (f : Frame) (rest : List Frame), s.reg .r0 = some v → s.frames = f :: rest →
    ∃ t, exec .exit s = .next t ∧
      t = { s with
        regs := ⟨some v, none, none, none, none, none, f.r6, f.r7, f.r8, f.r9, some (s.frameTop rest.length)⟩
        frames := rest
        pc := f.ret } ∧
      ∀ a, t.byteAt a = s.byteAt a

/-- exit in the entry function (R43, R249, R299, R445). With R0 holding a value and no frame on the call stack, exit
answers the state whose status is Final with that value, and nothing else has changed. -/
def Obligations.ExitEndsTheRun : Prop :=
  ∀ (s : State) (v : Word), s.reg .r0 = some v → s.frames = [] →
    exec .exit s = .next { s with status := .final v }

/-- A call and its return give the caller its registers back (R36, R248, R249). If call_local takes s to t, and u is any
state with t's call stack and platform in which R0 holds a value, exit takes u to a state in which R6 to R9 and R0 are
as in s and u, R10 is the top of the stack of s's frame, R1 to R5 hold no value, pc is the slot after the call, the
call stack is that of s, and memory is that of u. -/
def Obligations.CallThenExitRestores : Prop :=
  ∀ (s t u : State) (imm : BitVec 32) (v : Word), exec (.callLocal imm) s = .next t → u.frames = t.frames →
    u.plat = s.plat → u.reg .r0 = some v →
    ∃ x, exec .exit u = .next x ∧ x.pc = s.pc + 1 ∧ x.frames = s.frames ∧ x.mem = u.mem ∧ x.reg .r0 = some v ∧
      (∀ r ∈ [Reg.r6, .r7, .r8, .r9], x.reg r = s.reg r) ∧ (∀ r ∈ [Reg.r1, .r2, .r3, .r4, .r5], x.reg r = none) ∧
      x.reg .r10 = some (s.frameTop s.frames.length)

/-- call_helper and call_btf: what a platform function leaves (R246, R247, R296, R298). Where the platform's function (a
helper by static ID; a BTF function by ID and offset, the instruction's immediate and offset read signed) returns a
value and a memory, the call answers the state with the value in R0, no value in R1 to R5, that memory, pc one slot
on, and R6 to R10, the call stack and the rest unchanged. -/
def Obligations.PlatformCallResults : Prop :=
  ∀ (s : State) (imm : BitVec 32) (off : BitVec 16) (v : Word) (ws : List (Word × Byte)),
    (s.platformCall (.static imm.toInt) = some (.returns v ws) →
      exec (.callHelper imm) s = .next { s with
        regs := { s.regs with r0 := some v, r1 := none, r2 := none, r3 := none, r4 := none, r5 := none }
        mem := Memory.putAll s.mem ws
        pc := s.pc + 1 }) ∧
    (s.platformCall (.btf imm.toInt off.toInt) = some (.returns v ws) →
      exec (.callBtf off imm) s = .next { s with
        regs := { s.regs with r0 := some v, r1 := none, r2 := none, r3 := none, r4 := none, r5 := none }
        mem := Memory.putAll s.mem ws
        pc := s.pc + 1 })

/-- A call the platform does not define faults (R412). call_helper raises UnknownHelper(imm) when Helper is undefined
there, and call_btf when KFunc is undefined at (imm, offset). -/
def Obligations.UnknownHelperFaults : Prop :=
  ∀ (s : State) (imm : BitVec 32) (off : BitVec 16),
    (s.platformCall (.static imm.toInt) = none → exec (.callHelper imm) s = .fault (.unknownHelper imm.toInt)) ∧
    (s.platformCall (.btf imm.toInt off.toInt) = none →
      exec (.callBtf off imm) s = .fault (.unknownHelper imm.toInt))

/-- The loads: zero extended or sign extended, at every width (R63, R301, R302, R304, 43_load_store.md section 2). For
every state in which the base register holds a value and the access is admitted and, where it must be, aligned, each
load answers the state in which dst holds the value at base + offset, zero extended for ldxb, ldxh, ldxw, ldxdw and
sign extended for ldxsb, ldxsh, ldxsw; pc is one slot on and nothing else, memory included, has changed. -/
def Obligations.LoadResults : Prop :=
  ∀ (s : State) (d q : Reg) (b : Word) (off : BitVec 16), s.reg q = some b →
    (s.accessible (effAddr b off) 4 .read →
      exec (.ldxw d q off) s = .next (s.updated d (s.valueAt (effAddr b off).toNat 4) 1)) ∧
    (s.accessible (effAddr b off) 2 .read →
      exec (.ldxh d q off) s = .next (s.updated d (s.valueAt (effAddr b off).toNat 2) 1)) ∧
    (s.accessible (effAddr b off) 1 .read →
      exec (.ldxb d q off) s = .next (s.updated d (s.valueAt (effAddr b off).toNat 1) 1)) ∧
    (s.accessible (effAddr b off) 8 .read →
      exec (.ldxdw d q off) s = .next (s.updated d (s.valueAt (effAddr b off).toNat 8) 1)) ∧
    (s.accessible (effAddr b off) 4 .read →
      exec (.ldxsw d q off) s = .next (s.updated d (wrap 64 (sw 32 (s.valueAt (effAddr b off).toNat 4))) 1)) ∧
    (s.accessible (effAddr b off) 2 .read →
      exec (.ldxsh d q off) s = .next (s.updated d (wrap 64 (sw 16 (s.valueAt (effAddr b off).toNat 2))) 1)) ∧
    (s.accessible (effAddr b off) 1 .read →
      exec (.ldxsb d q off) s = .next (s.updated d (wrap 64 (sw 8 (s.valueAt (effAddr b off).toNat 1))) 1))

/-- The value of an access is its bytes in the host's order (R56, R63). For an access of up to 8 bytes, byte k of the
value (bits 8k+7:8k on a little-endian host, bits 8(n-1-k)+7:8(n-1-k) on a big-endian one) is the byte at a + k, and
the value is below 2^(8n). -/
def Obligations.ValueAtIsTheBytes : Prop :=
  ∀ (s : State) (a n : Nat), n ≤ 8 →
    (∀ k < n, byteOf s.plat.endian n (s.valueAt a n) k = s.byteAt (a + k)) ∧ (s.valueAt a n).toNat < 2 ^ (8 * n)

/-- The stores: the bytes they write, and no others (R56, R64, R301, R303, 43_load_store.md section 2). For every state in
which the base register (and for STX the source register) holds a value and the access is admitted and, where it must
be, aligned, each store answers a next state in which the n bytes at base + offset are the low n bytes of the sign-
extended immediate or of the source register in the host's order, every other byte of memory reads as before, pc is
one slot on, and no register nor anything else has changed. -/
def Obligations.StoreResults : Prop :=
  ∀ (s : State) (d q : Reg) (b v : Word) (off : BitVec 16) (imm : BitVec 32), s.reg d = some b → s.reg q = some v →
    (s.accessible (effAddr b off) 4 .write →
      (∃ t, exec (.stw d off imm) s = .next t ∧ storedAt s t (effAddr b off).toNat 4 (imm.signExtend 64)) ∧
      (∃ t, exec (.stxw d q off) s = .next t ∧ storedAt s t (effAddr b off).toNat 4 v)) ∧
    (s.accessible (effAddr b off) 2 .write →
      (∃ t, exec (.sth d off imm) s = .next t ∧ storedAt s t (effAddr b off).toNat 2 (imm.signExtend 64)) ∧
      (∃ t, exec (.stxh d q off) s = .next t ∧ storedAt s t (effAddr b off).toNat 2 v)) ∧
    (s.accessible (effAddr b off) 1 .write →
      (∃ t, exec (.stb d off imm) s = .next t ∧ storedAt s t (effAddr b off).toNat 1 (imm.signExtend 64)) ∧
      (∃ t, exec (.stxb d q off) s = .next t ∧ storedAt s t (effAddr b off).toNat 1 v)) ∧
    (s.accessible (effAddr b off) 8 .write →
      (∃ t, exec (.stdw d off imm) s = .next t ∧ storedAt s t (effAddr b off).toNat 8 (imm.signExtend 64)) ∧
      (∃ t, exec (.stxdw d q off) s = .next t ∧ storedAt s t (effAddr b off).toNat 8 v))

/-- The atomics without FETCH: ADD, OR, AND, XOR on 4 and 8 bytes (R65, R331, R333, R335, 44_atomic.md section 2). For
every state in which both registers hold values and the access is admitted and aligned, each of the eight atomics
without FETCH answers a next state in which the 4 or 8 bytes at base + offset hold the old value combined with the
source (the sum modulo 2^32 or 2^64; the low half of the source for 4 bytes), every other byte reads as before, pc is
one slot on, and no register nor anything else has changed. -/
def Obligations.AtomicResults : Prop :=
  ∀ (s : State) (d q : Reg) (b v : Word) (off : BitVec 16), s.reg d = some b → s.reg q = some v →
    (s.accessible (effAddr b off) 4 .atomic →
      (∃ t, exec (.atomicAdd32 d q off) s = .next t ∧ storedAt s t (effAddr b off).toNat 4 (sumOf 32 (s.valueAt (effAddr b off).toNat 4) v)) ∧
      (∃ t, exec (.atomicOr32 d q off) s = .next t ∧ storedAt s t (effAddr b off).toNat 4 ((s.valueAt (effAddr b off).toNat 4) ||| v)) ∧
      (∃ t, exec (.atomicAnd32 d q off) s = .next t ∧ storedAt s t (effAddr b off).toNat 4 ((s.valueAt (effAddr b off).toNat 4) &&& v)) ∧
      (∃ t, exec (.atomicXor32 d q off) s = .next t ∧ storedAt s t (effAddr b off).toNat 4 ((s.valueAt (effAddr b off).toNat 4) ^^^ v))) ∧
    (s.accessible (effAddr b off) 8 .atomic →
      (∃ t, exec (.atomicAdd64 d q off) s = .next t ∧ storedAt s t (effAddr b off).toNat 8 (sumOf 64 (s.valueAt (effAddr b off).toNat 8) v)) ∧
      (∃ t, exec (.atomicOr64 d q off) s = .next t ∧ storedAt s t (effAddr b off).toNat 8 ((s.valueAt (effAddr b off).toNat 8) ||| v)) ∧
      (∃ t, exec (.atomicAnd64 d q off) s = .next t ∧ storedAt s t (effAddr b off).toNat 8 ((s.valueAt (effAddr b off).toNat 8) &&& v)) ∧
      (∃ t, exec (.atomicXor64 d q off) s = .next t ∧ storedAt s t (effAddr b off).toNat 8 ((s.valueAt (effAddr b off).toNat 8) ^^^ v)))

/-- The atomics with FETCH, and XCHG: memory and the fetched old value (R65, R334, R335, R336, R337, 44_atomic.md section
2). For every state in which both registers hold values and the access is admitted and aligned, each of the ten
atomics with FETCH and XCHG answers a next state in which the 4 or 8 bytes at base + offset hold the combined value
(XCHG: the source), src holds the old value zero extended, every other byte reads as before, pc is one slot on, and
nothing else has changed; dst and src may be one register. -/
def Obligations.AtomicFetchResults : Prop :=
  ∀ (s : State) (d q : Reg) (b v : Word) (off : BitVec 16), s.reg d = some b → s.reg q = some v →
    (s.accessible (effAddr b off) 4 .atomic →
      (∃ t, exec (.atomicFetchAdd32 d q off) s = .next t ∧
        storedAndFetched s t (effAddr b off).toNat 4 (sumOf 32 (s.valueAt (effAddr b off).toNat 4) v) q (s.valueAt (effAddr b off).toNat 4)) ∧
      (∃ t, exec (.atomicFetchOr32 d q off) s = .next t ∧
        storedAndFetched s t (effAddr b off).toNat 4 ((s.valueAt (effAddr b off).toNat 4) ||| v) q (s.valueAt (effAddr b off).toNat 4)) ∧
      (∃ t, exec (.atomicFetchAnd32 d q off) s = .next t ∧
        storedAndFetched s t (effAddr b off).toNat 4 ((s.valueAt (effAddr b off).toNat 4) &&& v) q (s.valueAt (effAddr b off).toNat 4)) ∧
      (∃ t, exec (.atomicFetchXor32 d q off) s = .next t ∧
        storedAndFetched s t (effAddr b off).toNat 4 ((s.valueAt (effAddr b off).toNat 4) ^^^ v) q (s.valueAt (effAddr b off).toNat 4)) ∧
      (∃ t, exec (.atomicXchg32 d q off) s = .next t ∧
        storedAndFetched s t (effAddr b off).toNat 4 v q (s.valueAt (effAddr b off).toNat 4))) ∧
    (s.accessible (effAddr b off) 8 .atomic →
      (∃ t, exec (.atomicFetchAdd64 d q off) s = .next t ∧
        storedAndFetched s t (effAddr b off).toNat 8 (sumOf 64 (s.valueAt (effAddr b off).toNat 8) v) q (s.valueAt (effAddr b off).toNat 8)) ∧
      (∃ t, exec (.atomicFetchOr64 d q off) s = .next t ∧
        storedAndFetched s t (effAddr b off).toNat 8 ((s.valueAt (effAddr b off).toNat 8) ||| v) q (s.valueAt (effAddr b off).toNat 8)) ∧
      (∃ t, exec (.atomicFetchAnd64 d q off) s = .next t ∧
        storedAndFetched s t (effAddr b off).toNat 8 ((s.valueAt (effAddr b off).toNat 8) &&& v) q (s.valueAt (effAddr b off).toNat 8)) ∧
      (∃ t, exec (.atomicFetchXor64 d q off) s = .next t ∧
        storedAndFetched s t (effAddr b off).toNat 8 ((s.valueAt (effAddr b off).toNat 8) ^^^ v) q (s.valueAt (effAddr b off).toNat 8)) ∧
      (∃ t, exec (.atomicXchg64 d q off) s = .next t ∧
        storedAndFetched s t (effAddr b off).toNat 8 v q (s.valueAt (effAddr b off).toNat 8)))

/-- CMPXCHG on 4 and 8 bytes (R65, R335, R336, R337, R358, R359). For every state in which dst, src and R0 hold values and
the access is admitted and aligned, CMPXCHG answers a next state in which the bytes hold src if they held R0 (its low
half for 4 bytes) and are unchanged in value if not; R0 holds the old value zero extended, every other byte reads as
before, pc is one slot on, and nothing else has changed; dst or src may be R0. -/
def Obligations.CompareExchangeResults : Prop :=
  ∀ (s : State) (d q : Reg) (b v c : Word) (off : BitVec 16), s.reg d = some b → s.reg q = some v → s.reg .r0 = some c →
    (s.accessible (effAddr b off) 4 .atomic →
      ∃ t, exec (.atomicCmpxchg32 d q off) s = .next t ∧
        storedAndFetched s t (effAddr b off).toNat 4 (if uw 32 (s.valueAt (effAddr b off).toNat 4) = uw 32 c then v else s.valueAt (effAddr b off).toNat 4) .r0 (s.valueAt (effAddr b off).toNat 4)) ∧
    (s.accessible (effAddr b off) 8 .atomic →
      ∃ t, exec (.atomicCmpxchg64 d q off) s = .next t ∧
        storedAndFetched s t (effAddr b off).toNat 8 (if uw 64 (s.valueAt (effAddr b off).toNat 8) = uw 64 c then v else s.valueAt (effAddr b off).toNat 8) .r0 (s.valueAt (effAddr b off).toNat 8))

/-- A load returns what a store of the same width left (R56, R71, R302, R303). After a store of 1, 2, 4 or 8 bytes of a
register, a load of the same width through the same base register and offset, if it is admitted, answers the state in
which the loaded register holds the low bytes of the stored value, on either host, whatever the two registers are. -/
def Obligations.LoadAfterStoreReturnsValue : Prop :=
  ∀ (s t : State) (d q r : Reg) (b v : Word) (off : BitVec 16), s.reg d = some b → s.reg q = some v →
    (exec (.stxb d q off) s = .next t → s.admits (effAddr b off) 1 .read = true →
      exec (.ldxb r d off) t = .next (t.updated r (wrap 8 (uw 8 v)) 1)) ∧
    (exec (.stxh d q off) s = .next t → s.admits (effAddr b off) 2 .read = true →
      exec (.ldxh r d off) t = .next (t.updated r (wrap 16 (uw 16 v)) 1)) ∧
    (exec (.stxw d q off) s = .next t → s.admits (effAddr b off) 4 .read = true →
      exec (.ldxw r d off) t = .next (t.updated r (wrap 32 (uw 32 v)) 1)) ∧
    (exec (.stxdw d q off) s = .next t → s.admits (effAddr b off) 8 .read = true →
      exec (.ldxdw r d off) t = .next (t.updated r (wrap 64 (uw 64 v)) 1))

/-- A narrow read of a wider stored value (R56, R58). After the 4 bytes of 0x11223344 are stored at a: on a little-endian
host the byte at a is 0x44 and the 2 bytes at a + 2 are 0x1122; on a big-endian host 0x11 and 0x3344 (the spec's
example). -/
def Obligations.NarrowReadOfWideStore : Prop :=
  ∀ (s : State) (a : Nat),
    (s.plat.endian = .little →
      (s.store a 4 0x11223344).valueAt a 1 = 0x44 ∧ (s.store a 4 0x11223344).valueAt (a + 2) 2 = 0x1122) ∧
    (s.plat.endian = .big →
      (s.store a 4 0x11223344).valueAt a 1 = 0x11 ∧ (s.store a 4 0x11223344).valueAt (a + 2) 2 = 0x3344)

/-- Which accesses are admitted (R31, R62). An access of n bytes at a is admitted exactly when it does not pass 2^64 and
either lies inside the stack of one live frame (depth 0 to the present one) or is admitted by a clause of the
platform's predicate for its kind. R62 leaves that predicate to the platform; that it is a list of clauses, each a
region or one exact range, is the MODEL'S choice of form (log entry 6, DESIGN CHOICE). -/
def Obligations.AdmissionRule : Prop :=
  ∀ (s : State) (a : Word) (n : Nat) (kind : AccessKind),
    s.admits a n kind = true ↔
      a.toNat + n ≤ 2 ^ 64 ∧
        ((∃ j ≤ s.frames.length, (s.frameTop j).toNat ≤ a.toNat + s.plat.stackSize ∧
            a.toNat + n ≤ (s.frameTop j).toNat) ∨
          (∃ base size, .region base size kind ∈ s.plat.admission ∧ base ≤ a.toNat ∧ a.toNat + n ≤ base + size) ∨
          .exactly a.toNat n kind ∈ s.plat.admission)

/-- MemFault before Misaligned, and otherwise the access goes through (R63, R64, R65, R305, R338, R406, R407, R417). For
every load, store and atomic whose registers hold values: not admitted, it faults as MemFault with the effective
address, width and kind, aligned or not; admitted but misaligned, it faults as Misaligned if it is an atomic or
ALIGN_STRICT holds; otherwise it answers a next state. -/
def Obligations.AccessFaultsInOrder : Prop :=
  ∀ (i : Instr) (s : State) (q : Reg) (off : BitVec 16) (n : Nat) (kind : AccessKind) (b : Word),
    accessOf i = some (q, off, n, kind) → s.reg q = some b → (∀ r ∈ readsOf i, s.reg r ≠ none) →
    (s.admits (effAddr b off) n kind = false → exec i s = .fault (.memFault (effAddr b off) n kind)) ∧
    (s.admits (effAddr b off) n kind = true → (effAddr b off).toNat % n ≠ 0 →
      (kind = .atomic ∨ s.plat.alignStrict = true) → exec i s = .fault (.misaligned (effAddr b off) n)) ∧
    (s.accessible (effAddr b off) n kind → ∃ t, exec i s = .next t)

/-- The effective address is modulo 2^64 (R41, R301). The effective address of a base and a signed 16-bit offset is their
integer sum modulo 2^64. -/
def Obligations.EffectiveAddressWraps : Prop :=
  ∀ (b : Word) (off : BitVec 16), ((effAddr b off).toNat : Int) = ((b.toNat : Int) + off.toInt) % 2 ^ 64

/-- The seven wide instructions (R34, R361, R362, 45_imm64.md section 2). lddw answers the state in which dst holds
next_imm * 2^32 + imm, both read unsigned. The six others, where the platform functions they name are defined at the
signed immediate (ld_code_addr: at pc and the immediate), answer the state in which dst holds that value, or for the
two value forms map_val of it plus the signed next_imm modulo 2^64. pc is two slots on and nothing else has changed;
dst need not hold a value. -/
def Obligations.WideImmediateResults : Prop :=
  ∀ (s : State) (d : Reg) (imm nx : BitVec 32),
    exec (.lddw d imm nx) s = .next (s.updated d (BitVec.ofNat 64 (nx.toNat * 2 ^ 32 + imm.toNat)) 2) ∧
    (∀ v, s.plat.mapByFd.lookup imm.toInt = some v → exec (.ldMapFd d imm) s = .next (s.updated d v 2)) ∧
    (∀ v, s.plat.varAddr.lookup imm.toInt = some v → exec (.ldVarAddr d imm) s = .next (s.updated d v 2)) ∧
    (∀ v, s.plat.codeAddr.lookup (s.pc, imm.toInt) = some v → exec (.ldCodeAddr d imm) s = .next (s.updated d v 2)) ∧
    (∀ v, s.plat.mapByIdx.lookup imm.toInt = some v → exec (.ldMapIdx d imm) s = .next (s.updated d v 2)) ∧
    (∀ x v, s.plat.mapByFd.lookup imm.toInt = some x → s.plat.mapVal.lookup x = some v →
      exec (.ldMapFdVal d imm nx) s = .next (s.updated d (BitVec.ofInt 64 ((v.toNat : Int) + nx.toInt)) 2)) ∧
    (∀ x v, s.plat.mapByIdx.lookup imm.toInt = some x → s.plat.mapVal.lookup x = some v →
      exec (.ldMapIdxVal d imm nx) s = .next (s.updated d (BitVec.ofInt 64 ((v.toNat : Int) + nx.toInt)) 2))

/-- A platform function that is undefined, or a helper that ends the run (R413). Each of the six wide instructions that
name a platform function raises PlatformFault where the function is undefined at its argument (for the value forms:
where map_val is undefined at the map too), and a call raises it where the platform defines that the helper ends the
run. -/
def Obligations.PlatformFaults : Prop :=
  ∀ (s : State) (d : Reg) (imm nx : BitVec 32) (off : BitVec 16),
    (s.plat.mapByFd.lookup imm.toInt = none → exec (.ldMapFd d imm) s = .fault .platformFault) ∧
    (s.plat.varAddr.lookup imm.toInt = none → exec (.ldVarAddr d imm) s = .fault .platformFault) ∧
    (s.plat.codeAddr.lookup (s.pc, imm.toInt) = none → exec (.ldCodeAddr d imm) s = .fault .platformFault) ∧
    (s.plat.mapByIdx.lookup imm.toInt = none → exec (.ldMapIdx d imm) s = .fault .platformFault) ∧
    (s.plat.mapByFd.lookup imm.toInt = none → exec (.ldMapFdVal d imm nx) s = .fault .platformFault) ∧
    (s.plat.mapByIdx.lookup imm.toInt = none → exec (.ldMapIdxVal d imm nx) s = .fault .platformFault) ∧
    (∀ x, s.plat.mapByFd.lookup imm.toInt = some x → s.plat.mapVal.lookup x = none →
      exec (.ldMapFdVal d imm nx) s = .fault .platformFault) ∧
    (∀ x, s.plat.mapByIdx.lookup imm.toInt = some x → s.plat.mapVal.lookup x = none →
      exec (.ldMapIdxVal d imm nx) s = .fault .platformFault) ∧
    (s.platformCall (.static imm.toInt) = some .fails → exec (.callHelper imm) s = .fault .platformFault) ∧
    (s.platformCall (.btf imm.toInt off.toInt) = some .fails → exec (.callBtf off imm) s = .fault .platformFault)

/-- The six legacy packet loads have no meaning (R378, R379, R380, R381, R382, R383, R384, R411). Each of the six legacy
packet loads is refused in every state as Unmodelled(pc); on the default platform, which does not have the packet
group, decoding one is illegal; and where the next step is refused, no claim that the run is safe or returns a value,
in any number of steps from 1 on, holds. -/
def Obligations.PacketLoadsAreRefused : Prop :=
  ∀ (s : State) (q : Reg) (imm : BitVec 32) (a : Slot) (b : Option Slot) (i : Instr)
    (r : Refusal) (n : Nat) (v : Word),
    exec (.ldabsw imm) s = .refused (.unmodelled s.pc) ∧ exec (.ldabsh imm) s = .refused (.unmodelled s.pc) ∧
    exec (.ldabsb imm) s = .refused (.unmodelled s.pc) ∧ exec (.ldindw q imm) s = .refused (.unmodelled s.pc) ∧
    exec (.ldindh q imm) s = .refused (.unmodelled s.pc) ∧ exec (.ldindb q imm) s = .refused (.unmodelled s.pc) ∧
    (decodeSlots .little a b = .ok i → i.group = .packet →
      decodeFor Platform.default a b = .error .unsupportedGroup) ∧
    (s.status = .running → step s = .refused r → ¬safeFor (n + 1) s ∧ ¬returnsWithin (n + 1) s v)

/-- Reading a register that holds no value, in the order dst, src, R0 (R29, R30, R139, R305, R338, R409, R417). For every
instruction: the first register it reads, in the order dst, src, R0, that holds no value makes it fault as
UninitRegister of that register, whatever else would fault. -/
def Obligations.UnwrittenRegisterFaults : Prop :=
  ∀ (i : Instr) (s : State) (before after : List Reg) (r : Reg), readsOf i = before ++ r :: after →
    (∀ q ∈ before, s.reg q ≠ none) → s.reg r = none → exec i s = .fault (.uninitRegister r)

/-- An instruction changes no register but those it writes (R28, R29, R247, R248, R249, R306, R334). For every instruction
that answers a next state: each register outside the ones the spec says it writes (dst; src of an atomic with FETCH
and of XCHG; R0 of CMPXCHG; R0 to R5 of a helper call; R0 and R6 to R10 of call_local; R1 to R10 of exit) holds what
it held. -/
def Obligations.RegisterFrame : Prop :=
  ∀ (i : Instr) (s t : State) (r : Reg), exec i s = .next t → r ∉ writesOf i → t.reg r = s.reg r

/-- An instruction changes no byte but those it stores to (R64, R65, R68, R236, R303, R364). For every instruction but
CALL and EXIT that answers a next state: if it is a store or an atomic, every byte outside the bytes of its access
reads as before; if it is neither, every byte of memory reads as before. -/
def Obligations.MemoryFrame : Prop :=
  ∀ (i : Instr) (s t : State) (x : Nat), exec i s = .next t → isCallOrExit i = false →
    (∀ q off n kind b, accessOf i = some (q, off, n, kind) → s.reg q = some b →
      kind = .read ∨ x < (effAddr b off).toNat ∨ (effAddr b off).toNat + n ≤ x → t.byteAt x = s.byteAt x) ∧
    (accessOf i = none → t.byteAt x = s.byteAt x)

/-- But for CALL and EXIT an instruction changes registers, memory and pc only (R236, R401, R443). For every instruction
but CALL and EXIT that answers a next state, the call stack, the status, the parameters and the model's own counters
are unchanged. -/
def Obligations.OtherStateFrame : Prop :=
  ∀ (i : Instr) (s t : State), exec i s = .next t → isCallOrExit i = false →
    t = { s with regs := t.regs, mem := t.mem, pc := t.pc }

/-- An instruction that is no jump goes to the slot after it (R34, R96). For every instruction outside the classes JMP and
JMP32 that answers a next state, the new pc is pc + 1, or pc + 2 if the instruction is wide. -/
def Obligations.PcAdvancesBySlots : Prop :=
  ∀ (i : Instr) (s t : State), exec i s = .next t → classOf i ≠ 5 → classOf i ≠ 6 → t.pc = s.pc + i.slots

/-- Arithmetic and jumps do not depend on the host's byte order (R55, R212, 40_alu.md, 42_jump.md). For every instruction
that accesses no memory and is none of the six le and be swaps: if it answers a next state, it answers the same one on
a host of either byte order. -/
def Obligations.HostOrderIrrelevant : Prop :=
  ∀ (i : Instr) (s t : State) (e : Endian), accessOf i = none → opcodeOf i ≠ 0xd4 → opcodeOf i ≠ 0xdc →
    exec i s = .next t → exec i (s.onHost e) = .next (t.onHost e)

/-- No step changes the parameters or the program text (R32, R72, R443). If a step answers a next state, the platform and
the program text are what they were. -/
def Obligations.StepKeepsParameters : Prop :=
  ∀ s t : State, step s = .next t → t.plat = s.plat ∧ t.prog = s.prog

/-- R10 is read-only to the program (R28, R119, R248, R249). In every state and for every step that answers a next state:
if the call stack has not changed, neither has R10. So no instruction that decodes writes R10; only the frame change
of a call or a return does. -/
def Obligations.FramePointerMovesOnlyWithFrames : Prop :=
  ∀ s t : State, step s = .next t → t.frames = s.frames → t.reg .r10 = s.reg .r10

/-- The call stack is only pushed by calls and popped by returns (R36, R248, R249). For every step that answers a next
state, the call stack is unchanged; or the instruction at pc is call_local and one record with the slot after pc and
the R6 to R9 of that moment has been pushed; or the instruction at pc is exit, the top record has been popped, pc is
its return slot and R6 to R9 are as it recorded. -/
def Obligations.CallStackDiscipline : Prop :=
  ∀ s t : State, step s = .next t →
    t.frames = s.frames ∨
    (∃ imm f, s.decodesTo (.callLocal imm) ∧ t.frames = f :: s.frames ∧ f.ret = s.pc + 1 ∧
      f.r6 = s.reg .r6 ∧ f.r7 = s.reg .r7 ∧ f.r8 = s.reg .r8 ∧ f.r9 = s.reg .r9) ∨
    (∃ f, s.decodesTo .exit ∧ s.frames = f :: t.frames ∧ t.pc = f.ret ∧
      t.reg .r6 = f.r6 ∧ t.reg .r7 = f.r7 ∧ t.reg .r8 = f.r8 ∧ t.reg .r9 = f.r9)

/-- A step ends the run only by exit in the entry function (R43, R249, R445). If a step answers a next state, the run is
still going on, or the instruction at pc is exit, the call stack was empty, R0 held v, and the next state is the one
after the other agents' turn with status Final(v). -/
def Obligations.RunEndsOnlyByExit : Prop :=
  ∀ s t : State, step s = .next t →
    t.status = .running ∨
    ∃ v, s.decodesTo .exit ∧ s.frames = [] ∧ s.reg .r0 = some v ∧ t = { s.envTurn with status := .final v }

/-- Every step keeps the invariant (R28, R31, R245, R248, R249, R442). For every state that meets the invariant, every
next state a step answers meets it: the stored memory is in its form (addresses rising, of 64 bits), R10 is the top of
the running frame's stack, no more frames are alive than MAX_CALL_DEPTH, and no two stacks share a draw of unwritten
bytes. The form of the memory and the draws are the MODEL'S own (log entry 5). -/
def Obligations.InvariantKeptByStep : Prop :=
  ∀ s t : State, s.Inv → step s = .next t → t.Inv

/-- The invariant holds at the start (R31, R440, R441, 70_reset_and_hazards.md section 1). The state after reset meets the
invariant, and so does the spec's start state for every platform and program, every memory in its form and every
behaviour of the other agents. R31 and R441 give R10, R440 the empty call stack; the form of the memory and the draws
are the MODEL'S own (log entry 5), and so are the values that reset gives where the spec has none or leaves them to
the platform (log entries 1 and 3). -/
def Obligations.InvariantHoldsAtStart : Prop :=
  State.reset.Inv ∧
    ∀ (p : Platform) (prog : List Slot) (mem : Memory) (env : List (List (Word × Byte))), Memory.wf mem →
      (State.runStart p prog mem env).Inv

/-- What the other agents may change between two steps (R66). Their turn changes no register, pc, call stack, status or
parameter, no byte of a live frame's stack and no byte at an address the platform does not share. That what they write
is held as a queue, of which each step takes one turn (env becomes env.tail), is the MODEL'S form of Env (log entry 8,
DEDUCED). -/
def Obligations.OtherAgentsTouchSharedMemoryOnly : Prop :=
  ∀ s : State,
    s.envTurn = { s with mem := s.envTurn.mem, env := s.env.tail } ∧
    ∀ a : Nat, s.inLiveStack a 1 = true ∨ (∀ r ∈ s.plat.shared, ¬(r.1 ≤ a ∧ a < r.1 + r.2)) →
      s.envTurn.byteAt a = s.byteAt a

/-- The start state that R440 to R442 give (R31, R440, R441, 70_reset_and_hazards.md section 1). At the start of a run: pc
is 0, no frame is on the call stack, the run is going on, R1 holds ENTRY_CTX, R10 holds FRAME_TOP(0), every other
register holds no value, memory is what the platform placed, and the other agents behave as given. That a byte the
platform did not place is the free byte Config.drawByte 0 is the MODEL'S form of R442's arbitrary byte (log entry 5),
and that R10 is 0 where a platform gives no FRAME_TOP(0) is the MODEL'S choice (log entry 7). -/
def Obligations.StartStateOfTheSpec : Prop :=
  ∀ (p : Platform) (prog : List Slot) (mem : Memory) (env : List (List (Word × Byte))),
    let s := State.runStart p prog mem env
    s.pc = 0 ∧ s.frames = [] ∧ s.status = .running ∧ s.plat = p ∧ s.prog = prog ∧ s.mem = mem ∧ s.env = env ∧
    s.reg .r1 = some p.entryCtx ∧ s.reg .r10 = some (p.frameTops.getD 0 0) ∧
    (∀ r ∈ [Reg.r0, .r2, .r3, .r4, .r5, .r6, .r7, .r8, .r9], s.reg r = none) ∧
    ∀ a : Nat, Memory.get mem a = none → s.byteAt a = Config.drawByte 0 a

/-- The state after reset (R0 and R2 to R9: the model's choice) (R440, R441, 70_reset_and_hazards.md section 1). Reset is
the start state of the default platform with no program and nothing stored: pc 0, no frame, running, no other agent,
R1 = 0x1000 and R10 = 0x8000 (parameters of the spec's examples, log entry 3). That R0 and R2 to R9 hold 0 there is
the MODEL'S choice, not the spec's, in which they hold no value (log entry 1). -/
def Obligations.ResetState : Prop :=
  State.reset.pc = 0 ∧ State.reset.frames = [] ∧ State.reset.status = .running ∧ State.reset.mem = [] ∧
    State.reset.prog = [] ∧ State.reset.env = [] ∧ State.reset.plat = Platform.default ∧
    State.reset.reg .r1 = some 0x1000 ∧ State.reset.reg .r10 = some 0x8000 ∧
    ∀ r ∈ [Reg.r0, .r2, .r3, .r4, .r5, .r6, .r7, .r8, .r9], State.reset.reg r = some 0

/-- What an observer sees after a fault (R401). If a step faults, the observed state has the registers, pc and call stack
of before, memory as the other agents' turn left it, and status Fault with that fault; and it takes no further step. A
fault of step carries no state: that the frozen state of R401 is what Safety.lean's observe builds is the MODEL'S
choice (log entry 12, DESIGN CHOICE), and so is the refusal runEnded by which a frozen state takes no further step
(log entry 10, DEDUCED). -/
def Obligations.FaultFreezesState : Prop :=
  ∀ (s : State) (f : Fault), step s = .fault f →
    ∃ t, observe s = some t ∧ t = { s.envTurn with status := .fault f } ∧ t.regs = s.regs ∧ t.pc = s.pc ∧
      t.frames = s.frames ∧ step t = .refused .runEnded

/-- No access touches the stack of a frame that is not alive (R31, R62, R249, R444). On a platform that has done its part
of R444(4), no access of one byte or more that touches the stack of a depth deeper than the present one is admitted: a
callee's stack is out of reach before the call and again after the return. -/
def Obligations.StackOfADeadFrameIsNotAdmitted : Prop :=
  ∀ (s : State) (j : Nat) (a : Word) (n : Nat) (kind : AccessKind), PlatformValid s.plat → s.frames.length < j →
    j < s.plat.maxCallDepth → 1 ≤ n → a.toNat < (s.frameTop j).toNat →
    (s.frameTop j).toNat < a.toNat + n + s.plat.stackSize → s.admits a n kind = false

end
end

