-- ==== Sys2Proof/Laws/State.lean ====
section
/-! SUPPORT. Laws/State.lean: what each update of the state leaves in each field, true by `rfl`, so that no later proof
unfolds a record update. -/

namespace Sys2Proof.Machine

@[simp] theorem State.setReg_regs (s : State) (r : Reg) (v : Word) : (s.setReg r v).regs = s.regs.set r (some v) := rfl
@[simp] theorem State.setReg_pc (s : State) (r : Reg) (v : Word) : (s.setReg r v).pc = s.pc := rfl
@[simp] theorem State.setReg_frames (s : State) (r : Reg) (v : Word) : (s.setReg r v).frames = s.frames := rfl
@[simp] theorem State.setReg_mem (s : State) (r : Reg) (v : Word) : (s.setReg r v).mem = s.mem := rfl
@[simp] theorem State.setReg_status (s : State) (r : Reg) (v : Word) : (s.setReg r v).status = s.status := rfl
@[simp] theorem State.setReg_plat (s : State) (r : Reg) (v : Word) : (s.setReg r v).plat = s.plat := rfl
@[simp] theorem State.setReg_prog (s : State) (r : Reg) (v : Word) : (s.setReg r v).prog = s.prog := rfl
@[simp] theorem State.setReg_env (s : State) (r : Reg) (v : Word) : (s.setReg r v).env = s.env := rfl
@[simp] theorem State.setReg_draws (s : State) (r : Reg) (v : Word) : (s.setReg r v).draws = s.draws := rfl
@[simp] theorem State.setReg_nextDraw (s : State) (r : Reg) (v : Word) : (s.setReg r v).nextDraw = s.nextDraw := rfl

@[simp] theorem State.advance_regs (s : State) (n : Int) : (s.advance n).regs = s.regs := rfl
@[simp] theorem State.advance_pc (s : State) (n : Int) : (s.advance n).pc = s.pc + n := rfl
@[simp] theorem State.advance_frames (s : State) (n : Int) : (s.advance n).frames = s.frames := rfl
@[simp] theorem State.advance_mem (s : State) (n : Int) : (s.advance n).mem = s.mem := rfl
@[simp] theorem State.advance_status (s : State) (n : Int) : (s.advance n).status = s.status := rfl
@[simp] theorem State.advance_plat (s : State) (n : Int) : (s.advance n).plat = s.plat := rfl
@[simp] theorem State.advance_prog (s : State) (n : Int) : (s.advance n).prog = s.prog := rfl
@[simp] theorem State.advance_env (s : State) (n : Int) : (s.advance n).env = s.env := rfl
@[simp] theorem State.advance_draws (s : State) (n : Int) : (s.advance n).draws = s.draws := rfl
@[simp] theorem State.advance_nextDraw (s : State) (n : Int) : (s.advance n).nextDraw = s.nextDraw := rfl

@[simp] theorem State.jump_regs (s : State) (n : Int) : (s.jump n).regs = s.regs := rfl
@[simp] theorem State.jump_pc (s : State) (n : Int) : (s.jump n).pc = s.pc + 1 + n := rfl
@[simp] theorem State.jump_frames (s : State) (n : Int) : (s.jump n).frames = s.frames := rfl
@[simp] theorem State.jump_mem (s : State) (n : Int) : (s.jump n).mem = s.mem := rfl
@[simp] theorem State.jump_status (s : State) (n : Int) : (s.jump n).status = s.status := rfl
@[simp] theorem State.jump_plat (s : State) (n : Int) : (s.jump n).plat = s.plat := rfl
@[simp] theorem State.jump_prog (s : State) (n : Int) : (s.jump n).prog = s.prog := rfl
@[simp] theorem State.jump_env (s : State) (n : Int) : (s.jump n).env = s.env := rfl
@[simp] theorem State.jump_draws (s : State) (n : Int) : (s.jump n).draws = s.draws := rfl
@[simp] theorem State.jump_nextDraw (s : State) (n : Int) : (s.jump n).nextDraw = s.nextDraw := rfl

@[simp] theorem State.store_regs (s : State) (a n : Nat) (v : Word) : (s.store a n v).regs = s.regs := rfl
@[simp] theorem State.store_pc (s : State) (a n : Nat) (v : Word) : (s.store a n v).pc = s.pc := rfl
@[simp] theorem State.store_frames (s : State) (a n : Nat) (v : Word) : (s.store a n v).frames = s.frames := rfl
@[simp] theorem State.store_mem (s : State) (a n : Nat) (v : Word) : (s.store a n v).mem = Memory.putBytes s.mem a (dataBytes s.plat.endian n v) := rfl
@[simp] theorem State.store_status (s : State) (a n : Nat) (v : Word) : (s.store a n v).status = s.status := rfl
@[simp] theorem State.store_plat (s : State) (a n : Nat) (v : Word) : (s.store a n v).plat = s.plat := rfl
@[simp] theorem State.store_prog (s : State) (a n : Nat) (v : Word) : (s.store a n v).prog = s.prog := rfl
@[simp] theorem State.store_env (s : State) (a n : Nat) (v : Word) : (s.store a n v).env = s.env := rfl
@[simp] theorem State.store_draws (s : State) (a n : Nat) (v : Word) : (s.store a n v).draws = s.draws := rfl
@[simp] theorem State.store_nextDraw (s : State) (a n : Nat) (v : Word) : (s.store a n v).nextDraw = s.nextDraw := rfl

@[simp] theorem State.result_regs (s : State) (r : Reg) (v : Word) : (s.result r v).regs = s.regs.set r (some v) := rfl
@[simp] theorem State.result_pc (s : State) (r : Reg) (v : Word) : (s.result r v).pc = s.pc + 1 := rfl
@[simp] theorem State.result_frames (s : State) (r : Reg) (v : Word) : (s.result r v).frames = s.frames := rfl
@[simp] theorem State.result_mem (s : State) (r : Reg) (v : Word) : (s.result r v).mem = s.mem := rfl
@[simp] theorem State.result_status (s : State) (r : Reg) (v : Word) : (s.result r v).status = s.status := rfl
@[simp] theorem State.result_plat (s : State) (r : Reg) (v : Word) : (s.result r v).plat = s.plat := rfl
@[simp] theorem State.result_prog (s : State) (r : Reg) (v : Word) : (s.result r v).prog = s.prog := rfl
@[simp] theorem State.result_env (s : State) (r : Reg) (v : Word) : (s.result r v).env = s.env := rfl
@[simp] theorem State.result_draws (s : State) (r : Reg) (v : Word) : (s.result r v).draws = s.draws := rfl
@[simp] theorem State.result_nextDraw (s : State) (r : Reg) (v : Word) : (s.result r v).nextDraw = s.nextDraw := rfl

@[simp] theorem State.resultWide_regs (s : State) (r : Reg) (v : Word) : (s.resultWide r v).regs = s.regs.set r (some v) := rfl
@[simp] theorem State.resultWide_pc (s : State) (r : Reg) (v : Word) : (s.resultWide r v).pc = s.pc + 2 := rfl
@[simp] theorem State.resultWide_frames (s : State) (r : Reg) (v : Word) : (s.resultWide r v).frames = s.frames := rfl
@[simp] theorem State.resultWide_mem (s : State) (r : Reg) (v : Word) : (s.resultWide r v).mem = s.mem := rfl
@[simp] theorem State.resultWide_status (s : State) (r : Reg) (v : Word) : (s.resultWide r v).status = s.status := rfl
@[simp] theorem State.resultWide_plat (s : State) (r : Reg) (v : Word) : (s.resultWide r v).plat = s.plat := rfl
@[simp] theorem State.resultWide_prog (s : State) (r : Reg) (v : Word) : (s.resultWide r v).prog = s.prog := rfl
@[simp] theorem State.resultWide_env (s : State) (r : Reg) (v : Word) : (s.resultWide r v).env = s.env := rfl
@[simp] theorem State.resultWide_draws (s : State) (r : Reg) (v : Word) : (s.resultWide r v).draws = s.draws := rfl
@[simp] theorem State.resultWide_nextDraw (s : State) (r : Reg) (v : Word) : (s.resultWide r v).nextDraw = s.nextDraw := rfl

@[simp] theorem State.afterHelper_regs (s : State) (v : Word) (ws : List (Word × Byte)) : (s.afterHelper v ws).regs = (s.regs.set .r0 (some v)).dropArgs := rfl
@[simp] theorem State.afterHelper_pc (s : State) (v : Word) (ws : List (Word × Byte)) : (s.afterHelper v ws).pc = s.pc := rfl
@[simp] theorem State.afterHelper_frames (s : State) (v : Word) (ws : List (Word × Byte)) : (s.afterHelper v ws).frames = s.frames := rfl
@[simp] theorem State.afterHelper_mem (s : State) (v : Word) (ws : List (Word × Byte)) : (s.afterHelper v ws).mem = Memory.putAll s.mem ws := rfl
@[simp] theorem State.afterHelper_status (s : State) (v : Word) (ws : List (Word × Byte)) : (s.afterHelper v ws).status = s.status := rfl
@[simp] theorem State.afterHelper_plat (s : State) (v : Word) (ws : List (Word × Byte)) : (s.afterHelper v ws).plat = s.plat := rfl
@[simp] theorem State.afterHelper_prog (s : State) (v : Word) (ws : List (Word × Byte)) : (s.afterHelper v ws).prog = s.prog := rfl
@[simp] theorem State.afterHelper_env (s : State) (v : Word) (ws : List (Word × Byte)) : (s.afterHelper v ws).env = s.env := rfl
@[simp] theorem State.afterHelper_draws (s : State) (v : Word) (ws : List (Word × Byte)) : (s.afterHelper v ws).draws = s.draws := rfl
@[simp] theorem State.afterHelper_nextDraw (s : State) (v : Word) (ws : List (Word × Byte)) : (s.afterHelper v ws).nextDraw = s.nextDraw := rfl

@[simp] theorem State.enterFrame_pc (s : State) : (s.enterFrame).pc = s.pc := rfl
@[simp] theorem State.enterFrame_frames (s : State) : (s.enterFrame).frames = ⟨s.pc + 1, s.regs.r6, s.regs.r7, s.regs.r8, s.regs.r9⟩ :: s.frames := rfl
@[simp] theorem State.enterFrame_mem (s : State) : (s.enterFrame).mem = s.mem.filter fun c => !s.inStack (s.frameTop (s.frames.length + 1)) c.1 1 := rfl
@[simp] theorem State.enterFrame_status (s : State) : (s.enterFrame).status = s.status := rfl
@[simp] theorem State.enterFrame_plat (s : State) : (s.enterFrame).plat = s.plat := rfl
@[simp] theorem State.enterFrame_prog (s : State) : (s.enterFrame).prog = s.prog := rfl
@[simp] theorem State.enterFrame_env (s : State) : (s.enterFrame).env = s.env := rfl
@[simp] theorem State.enterFrame_draws (s : State) : (s.enterFrame).draws = (s.frameTop (s.frames.length + 1), s.nextDraw) :: s.draws.filter fun t => decide (t.1 ≠ s.frameTop (s.frames.length + 1)) := rfl
@[simp] theorem State.enterFrame_nextDraw (s : State) : (s.enterFrame).nextDraw = s.nextDraw + 1 := rfl

@[simp] theorem State.leaveFrame_pc (s : State) (f : Frame) (rest : List Frame) : (s.leaveFrame f rest).pc = f.ret := rfl
@[simp] theorem State.leaveFrame_frames (s : State) (f : Frame) (rest : List Frame) : (s.leaveFrame f rest).frames = rest := rfl
@[simp] theorem State.leaveFrame_mem (s : State) (f : Frame) (rest : List Frame) : (s.leaveFrame f rest).mem = s.mem := rfl
@[simp] theorem State.leaveFrame_status (s : State) (f : Frame) (rest : List Frame) : (s.leaveFrame f rest).status = s.status := rfl
@[simp] theorem State.leaveFrame_plat (s : State) (f : Frame) (rest : List Frame) : (s.leaveFrame f rest).plat = s.plat := rfl
@[simp] theorem State.leaveFrame_prog (s : State) (f : Frame) (rest : List Frame) : (s.leaveFrame f rest).prog = s.prog := rfl
@[simp] theorem State.leaveFrame_env (s : State) (f : Frame) (rest : List Frame) : (s.leaveFrame f rest).env = s.env := rfl
@[simp] theorem State.leaveFrame_draws (s : State) (f : Frame) (rest : List Frame) : (s.leaveFrame f rest).draws = s.draws := rfl
@[simp] theorem State.leaveFrame_nextDraw (s : State) (f : Frame) (rest : List Frame) : (s.leaveFrame f rest).nextDraw = s.nextDraw := rfl

@[simp] theorem State.finish_regs (s : State) (v : Word) : (s.finish v).regs = s.regs := rfl
@[simp] theorem State.finish_pc (s : State) (v : Word) : (s.finish v).pc = s.pc := rfl
@[simp] theorem State.finish_frames (s : State) (v : Word) : (s.finish v).frames = s.frames := rfl
@[simp] theorem State.finish_mem (s : State) (v : Word) : (s.finish v).mem = s.mem := rfl
@[simp] theorem State.finish_status (s : State) (v : Word) : (s.finish v).status = .final v := rfl
@[simp] theorem State.finish_plat (s : State) (v : Word) : (s.finish v).plat = s.plat := rfl
@[simp] theorem State.finish_prog (s : State) (v : Word) : (s.finish v).prog = s.prog := rfl
@[simp] theorem State.finish_env (s : State) (v : Word) : (s.finish v).env = s.env := rfl
@[simp] theorem State.finish_draws (s : State) (v : Word) : (s.finish v).draws = s.draws := rfl
@[simp] theorem State.finish_nextDraw (s : State) (v : Word) : (s.finish v).nextDraw = s.nextDraw := rfl

@[simp] theorem State.frozen_regs (s : State) (f : Fault) : (s.frozen f).regs = s.regs := rfl
@[simp] theorem State.frozen_pc (s : State) (f : Fault) : (s.frozen f).pc = s.pc := rfl
@[simp] theorem State.frozen_frames (s : State) (f : Fault) : (s.frozen f).frames = s.frames := rfl
@[simp] theorem State.frozen_mem (s : State) (f : Fault) : (s.frozen f).mem = s.mem := rfl
@[simp] theorem State.frozen_status (s : State) (f : Fault) : (s.frozen f).status = .fault f := rfl
@[simp] theorem State.frozen_plat (s : State) (f : Fault) : (s.frozen f).plat = s.plat := rfl
@[simp] theorem State.frozen_prog (s : State) (f : Fault) : (s.frozen f).prog = s.prog := rfl
@[simp] theorem State.frozen_env (s : State) (f : Fault) : (s.frozen f).env = s.env := rfl
@[simp] theorem State.frozen_draws (s : State) (f : Fault) : (s.frozen f).draws = s.draws := rfl
@[simp] theorem State.frozen_nextDraw (s : State) (f : Fault) : (s.frozen f).nextDraw = s.nextDraw := rfl

@[simp] theorem State.setReg_frameTop (s : State) (r : Reg) (v : Word) (k : Nat) : (s.setReg r v).frameTop k = s.frameTop k := rfl
@[simp] theorem State.advance_frameTop (s : State) (n : Int) (k : Nat) : (s.advance n).frameTop k = s.frameTop k := rfl
@[simp] theorem State.jump_frameTop (s : State) (n : Int) (k : Nat) : (s.jump n).frameTop k = s.frameTop k := rfl
@[simp] theorem State.store_frameTop (s : State) (a n : Nat) (v : Word) (k : Nat) : (s.store a n v).frameTop k = s.frameTop k := rfl
@[simp] theorem State.result_frameTop (s : State) (r : Reg) (v : Word) (k : Nat) : (s.result r v).frameTop k = s.frameTop k := rfl
@[simp] theorem State.resultWide_frameTop (s : State) (r : Reg) (v : Word) (k : Nat) : (s.resultWide r v).frameTop k = s.frameTop k := rfl
@[simp] theorem State.afterHelper_frameTop (s : State) (v : Word) (ws : List (Word × Byte)) (k : Nat) : (s.afterHelper v ws).frameTop k = s.frameTop k := rfl
@[simp] theorem State.enterFrame_frameTop (s : State) (k : Nat) : (s.enterFrame).frameTop k = s.frameTop k := rfl
@[simp] theorem State.leaveFrame_frameTop (s : State) (f : Frame) (rest : List Frame) (k : Nat) : (s.leaveFrame f rest).frameTop k = s.frameTop k := rfl
@[simp] theorem State.finish_frameTop (s : State) (v : Word) (k : Nat) : (s.finish v).frameTop k = s.frameTop k := rfl
@[simp] theorem State.frozen_frameTop (s : State) (f : Fault) (k : Nat) : (s.frozen f).frameTop k = s.frameTop k := rfl

@[simp] theorem State.branch_regs (s : State) (t : Bool) (o : BitVec 16) : (s.branch t o).regs = s.regs := by
  cases t <;> rfl
@[simp] theorem State.branch_frames (s : State) (t : Bool) (o : BitVec 16) : (s.branch t o).frames = s.frames := by
  cases t <;> rfl
@[simp] theorem State.branch_mem (s : State) (t : Bool) (o : BitVec 16) : (s.branch t o).mem = s.mem := by
  cases t <;> rfl
@[simp] theorem State.branch_status (s : State) (t : Bool) (o : BitVec 16) : (s.branch t o).status = s.status := by
  cases t <;> rfl
@[simp] theorem State.branch_plat (s : State) (t : Bool) (o : BitVec 16) : (s.branch t o).plat = s.plat := by
  cases t <;> rfl
@[simp] theorem State.branch_prog (s : State) (t : Bool) (o : BitVec 16) : (s.branch t o).prog = s.prog := by
  cases t <;> rfl
@[simp] theorem State.branch_env (s : State) (t : Bool) (o : BitVec 16) : (s.branch t o).env = s.env := by
  cases t <;> rfl
@[simp] theorem State.branch_draws (s : State) (t : Bool) (o : BitVec 16) : (s.branch t o).draws = s.draws := by
  cases t <;> rfl
@[simp] theorem State.branch_nextDraw (s : State) (t : Bool) (o : BitVec 16) : (s.branch t o).nextDraw = s.nextDraw := by
  cases t <;> rfl
@[simp] theorem State.branch_pc (s : State) (t : Bool) (o : BitVec 16) :
    (s.branch t o).pc = if t then s.pc + 1 + o.toInt else s.pc + 1 := by
  cases t <;> rfl

/-! ## Registers -/

@[simp] theorem Regs.get_set_same (g : Regs) (r : Reg) (v : Option Word) : (g.set r v).get r = v := by
  cases r <;> rfl

theorem Regs.get_set_other (g : Regs) {r q : Reg} (v : Option Word) (h : q ≠ r) : (g.set r v).get q = g.get q := by
  cases r <;> cases q <;> first | rfl | exact absurd rfl h

theorem Regs.get_set (g : Regs) (r q : Reg) (v : Option Word) :
    (g.set r v).get q = if q = r then v else g.get q := by
  cases r <;> cases q <;> rfl

@[simp] theorem State.setReg_reg_same (s : State) (r : Reg) (v : Word) : (s.setReg r v).reg r = some v :=
  Regs.get_set_same s.regs r (some v)

theorem State.setReg_reg_other (s : State) {r q : Reg} (v : Word) (h : q ≠ r) : (s.setReg r v).reg q = s.reg q :=
  Regs.get_set_other s.regs (some v) h

@[simp] theorem State.advance_reg (s : State) (n : Int) (r : Reg) : (s.advance n).reg r = s.reg r := rfl
@[simp] theorem State.jump_reg (s : State) (n : Int) (r : Reg) : (s.jump n).reg r = s.reg r := rfl
@[simp] theorem State.store_reg (s : State) (a n : Nat) (v : Word) (r : Reg) : (s.store a n v).reg r = s.reg r := rfl
@[simp] theorem State.finish_reg (s : State) (v : Word) (r : Reg) : (s.finish v).reg r = s.reg r := rfl
@[simp] theorem State.branch_reg (s : State) (t : Bool) (o : BitVec 16) (r : Reg) : (s.branch t o).reg r = s.reg r := by
  cases t <;> rfl
@[simp] theorem State.result_reg_same (s : State) (r : Reg) (v : Word) : (s.result r v).reg r = some v :=
  Regs.get_set_same s.regs r (some v)
theorem State.result_reg_other (s : State) {r q : Reg} (v : Word) (h : q ≠ r) : (s.result r v).reg q = s.reg q :=
  Regs.get_set_other s.regs (some v) h
@[simp] theorem State.resultWide_reg_same (s : State) (r : Reg) (v : Word) : (s.resultWide r v).reg r = some v :=
  Regs.get_set_same s.regs r (some v)
theorem State.resultWide_reg_other (s : State) {r q : Reg} (v : Word) (h : q ≠ r) :
    (s.resultWide r v).reg q = s.reg q :=
  Regs.get_set_other s.regs (some v) h

/-- A written register that is not `R10` leaves the frame pointer as it was (R28). -/
theorem State.setReg_reg_r10 (s : State) {r : Reg} (v : Word) (h : r.isWritable = true) :
    (s.setReg r v).reg .r10 = s.reg .r10 := by
  cases r <;> first | rfl | cases h

/-! ## The other agents' turn -/

@[simp] theorem State.envTurn_regs (s : State) : s.envTurn.regs = s.regs := by
  unfold State.envTurn; split <;> rfl
@[simp] theorem State.envTurn_reg (s : State) (r : Reg) : s.envTurn.reg r = s.reg r := by simp [State.reg]
@[simp] theorem State.envTurn_pc (s : State) : s.envTurn.pc = s.pc := by
  unfold State.envTurn; split <;> rfl
@[simp] theorem State.envTurn_frames (s : State) : s.envTurn.frames = s.frames := by
  unfold State.envTurn; split <;> rfl
@[simp] theorem State.envTurn_status (s : State) : s.envTurn.status = s.status := by
  unfold State.envTurn; split <;> rfl
@[simp] theorem State.envTurn_plat (s : State) : s.envTurn.plat = s.plat := by
  unfold State.envTurn; split <;> rfl
@[simp] theorem State.envTurn_prog (s : State) : s.envTurn.prog = s.prog := by
  unfold State.envTurn; split <;> rfl
@[simp] theorem State.envTurn_draws (s : State) : s.envTurn.draws = s.draws := by
  unfold State.envTurn; split <;> rfl
@[simp] theorem State.envTurn_nextDraw (s : State) : s.envTurn.nextDraw = s.nextDraw := by
  unfold State.envTurn; split <;> rfl
@[simp] theorem State.envTurn_slotAt (s : State) (n : Nat) : s.envTurn.slotAt n = s.slotAt n := by
  simp [State.slotAt]
@[simp] theorem State.envTurn_slotAt? (s : State) (n : Nat) : s.envTurn.slotAt? n = s.slotAt? n := by
  simp [State.slotAt?]
@[simp] theorem State.envTurn_isTarget (s : State) (t : Int) : s.envTurn.isTarget t = s.isTarget t := by
  simp [State.isTarget]
@[simp] theorem State.envTurn_env (s : State) : s.envTurn.env = s.env.tail := by
  unfold State.envTurn; split <;> simp_all

end Sys2Proof.Machine
end

