-- ==== Sys2Proof/Laws/Memory.lean ====
section
/-! SUPPORT. Laws/Memory.lean: stored bytes read back, other bytes stay, the form of a memory is kept by every operation,
and values and bytes correspond (R56). -/

namespace Sys2Proof.Machine

/-! ## Reading back what was stored -/

theorem Memory.get_put (m : Memory) (a x : Nat) (b : Byte) :
    Memory.get (Memory.put m a b) x = if x = a then some b else Memory.get m x := by
  induction m with
  | nil => simp [Memory.put, Memory.get, eq_comm]
  | cons c rest ih =>
    simp only [Memory.put]
    split
    · simp [Memory.get, eq_comm]
    · split
      · rename_i _ h
        subst h
        by_cases hx : x = c.1
        · subst hx; simp [Memory.get]
        · simp [Memory.get, hx, Ne.symm hx]
      · rename_i _ h
        simp only [Memory.get, ih]
        by_cases hc : c.1 = x
        · subst hc; simp [h]
        · simp [hc]

/-- A byte outside the stored ones reads as before. -/
theorem Memory.get_putBytes_outside (bs : List Byte) :
    ∀ (m : Memory) (a x : Nat), x < a ∨ a + bs.length ≤ x →
      Memory.get (Memory.putBytes m a bs) x = Memory.get m x := by
  induction bs with
  | nil => intros; rfl
  | cons b rest ih =>
    intro m a x h
    simp only [List.length_cons] at h
    rw [Memory.putBytes, ih _ _ _ (by omega), Memory.get_put, if_neg (by omega)]

/-- Each stored byte reads as it was stored. -/
theorem Memory.get_putBytes_inside (bs : List Byte) :
    ∀ (m : Memory) (a k : Nat) (hk : k < bs.length),
      Memory.get (Memory.putBytes m a bs) (a + k) = some bs[k] := by
  induction bs with
  | nil => intro _ _ _ hk; simp at hk
  | cons b rest ih =>
    intro m a k hk
    rw [Memory.putBytes]
    cases k with
    | zero => rw [Memory.get_putBytes_outside _ _ _ _ (by omega), Memory.get_put]; simp
    | succ k =>
      rw [show a + (k + 1) = a + 1 + k by omega, ih _ _ _ (by simpa using hk)]
      simp

theorem Memory.get_putAll_other (ws : List (Word × Byte)) :
    ∀ (m : Memory) (x : Nat), (∀ w ∈ ws, w.1.toNat ≠ x) → Memory.get (Memory.putAll m ws) x = Memory.get m x := by
  induction ws with
  | nil => intros; rfl
  | cons w rest ih =>
    intro m x h
    rw [Memory.putAll, ih _ _ (fun v hv => h v (by simp [hv])), Memory.get_put,
      if_neg (fun e => h w (by simp) e.symm)]

/-- A byte that a filter keeps reads as before, and one that it drops reads as not stored. -/
theorem Memory.get_filter (m : Memory) (p : Nat → Bool) (x : Nat) :
    Memory.get (m.filter fun c => p c.1) x = if p x then Memory.get m x else none := by
  induction m with
  | nil => simp [Memory.get]
  | cons c rest ih =>
    by_cases hp : p c.1
    · rw [List.filter_cons_of_pos (by simpa using hp), Memory.get, Memory.get, ih]
      by_cases hc : c.1 = x
      · subst hc; simp [hp]
      · simp [hc]
    · rw [List.filter_cons_of_neg (by simpa using hp), ih, Memory.get]
      by_cases hc : c.1 = x
      · subst hc; simp [hp]
      · simp [hc]

/-! ## The form of a memory -/

theorem Memory.wf_nil : Memory.wf [] := by simp [Memory.wf]

theorem Memory.mem_put {m : Memory} {a : Nat} {b : Byte} {c : Host.Cell} (h : c ∈ Memory.put m a b) :
    c = (a, b) ∨ c ∈ m := by
  induction m with
  | nil => simpa [Memory.put] using h
  | cons d rest ih =>
    simp only [Memory.put] at h
    split at h
    · simpa using h
    · split at h
      · simp only [List.mem_cons] at h ⊢; tauto
      · simp only [List.mem_cons] at h ⊢
        rcases h with h | h
        · exact .inr (.inl h)
        · rcases ih h with h | h
          · exact .inl h
          · exact .inr (.inr h)

theorem Memory.wf_put {m : Memory} (a : Nat) (b : Byte) (ha : a < 2 ^ 64) (h : Memory.wf m) :
    Memory.wf (Memory.put m a b) := by
  obtain ⟨hs, hb⟩ := h
  refine ⟨?_, fun c hc => (Memory.mem_put hc).elim (fun e => e ▸ ha) (hb c)⟩
  clear hb
  induction m with
  | nil => simp [Memory.put]
  | cons c rest ih =>
    obtain ⟨hc, hr⟩ := List.pairwise_cons.1 hs
    simp only [Memory.put]
    split
    · rename_i hlt
      refine List.pairwise_cons.2 ⟨fun d hd => ?_, hs⟩
      rcases List.mem_cons.1 hd with rfl | hd
      · exact hlt
      · exact Nat.lt_trans hlt (hc d hd)
    · split
      · rename_i _ he
        exact List.pairwise_cons.2 ⟨fun d hd => he ▸ hc d hd, hr⟩
      · rename_i h1 h2
        refine List.pairwise_cons.2 ⟨fun d hd => ?_, ih hr⟩
        rcases Memory.mem_put hd with rfl | hd
        · exact Nat.lt_of_le_of_ne (Nat.le_of_not_lt h1) h2
        · exact hc d hd

theorem Memory.wf_putBytes (bs : List Byte) :
    ∀ {m : Memory} (a : Nat), a + bs.length ≤ 2 ^ 64 → Memory.wf m → Memory.wf (Memory.putBytes m a bs) := by
  induction bs with
  | nil => intro m a _ h; exact h
  | cons b rest ih =>
    intro m a ha h
    simp only [List.length_cons] at ha
    exact ih _ (by omega) (Memory.wf_put a b (by omega) h)

theorem Memory.wf_putAll (ws : List (Word × Byte)) :
    ∀ {m : Memory}, Memory.wf m → Memory.wf (Memory.putAll m ws) := by
  induction ws with
  | nil => intro m h; exact h
  | cons w rest ih => intro m h; exact ih (Memory.wf_put _ _ w.1.isLt h)

theorem Memory.wf_filter {m : Memory} (p : Host.Cell → Bool) (h : Memory.wf m) : Memory.wf (m.filter p) :=
  ⟨h.1.filter _, fun c hc => h.2 c (List.mem_of_mem_filter hc)⟩

/-! ## Bytes of a value -/

@[simp] theorem bytesLE_length (n : Nat) : ∀ v, (bytesLE n v).length = n := by
  induction n with
  | zero => intro v; rfl
  | succ n ih => intro v; simp [bytesLE, ih]

@[simp] theorem dataBytes_length (e : Endian) (n : Nat) (v : Word) : (dataBytes e n v).length = n := by
  cases e <;> simp [dataBytes]

@[simp] theorem bytesAt_length (s : State) (n : Nat) : ∀ a, (s.bytesAt a n).length = n := by
  induction n with
  | zero => intro a; rfl
  | succ n ih => intro a; simp [State.bytesAt, ih]

theorem bytesAt_getElem (s : State) (n : Nat) : ∀ (a k : Nat) (h : k < (s.bytesAt a n).length),
    (s.bytesAt a n)[k] = s.byteAt (a + k) := by
  induction n with
  | zero => intro a k h; simp at h
  | succ n ih =>
    intro a k h
    cases k with
    | zero => rfl
    | succ k => simp only [State.bytesAt, List.getElem_cons_succ]; rw [ih]; congr 1; omega

/-- Byte `k` of a value, from the low end. -/
theorem bytesLE_getElem (n : Nat) : ∀ (v : Word) (k : Nat) (h : k < (bytesLE n v).length),
    (bytesLE n v)[k] = v.extractLsb' (8 * k) 8 := by
  induction n with
  | zero => intro v k h; simp at h
  | succ n ih =>
    intro v k h
    cases k with
    | zero => simp only [bytesLE, List.getElem_cons_zero]; ext i hi; simp [BitVec.getElem_extractLsb']
    | succ k =>
      simp only [bytesLE, List.getElem_cons_succ]
      rw [ih]
      ext i hi
      simp only [BitVec.getElem_extractLsb', BitVec.getLsbD_ushiftRight]
      congr 1
      omega

/-- Bit `i` of the value of some bytes is bit `i mod 8` of byte `i / 8`. -/
theorem valueLE_getLsbD (bs : List Byte) : ∀ i, i < 64 →
    (valueLE bs).getLsbD i = (bs.getD (i / 8) 0).getLsbD (i % 8) := by
  induction bs with
  | nil => intro i _; simp [valueLE]
  | cons b rest ih =>
    intro i hi
    simp only [valueLE, BitVec.getLsbD_or, BitVec.getLsbD_shiftLeft, hi, decide_true, Bool.true_and,
      BitVec.getLsbD_setWidth]
    by_cases h8 : i < 8
    · simp [h8, Nat.div_eq_of_lt h8, Nat.mod_eq_of_lt h8]
    · rw [ih (i - 8) (by omega)]
      have h1 : i / 8 = (i - 8) / 8 + 1 := by omega
      have h2 : (i - 8) % 8 = i % 8 := by omega
      rw [h1, h2]
      simp [h8, BitVec.getLsbD_of_ge b i (by omega)]

/-- The bytes of a value give back its low `n` bytes. -/
theorem valueLE_bytesLE (n : Nat) (v : Word) : ∀ i, i < 64 →
    (valueLE (bytesLE n v)).getLsbD i = (decide (i < 8 * n) && v.getLsbD i) := by
  intro i hi
  rw [valueLE_getLsbD _ _ hi]
  by_cases h : i < 8 * n
  · have hk : i / 8 < (bytesLE n v).length := by simp; omega
    rw [List.getD_eq_getElem _ _ hk, bytesLE_getElem, BitVec.getLsbD_extractLsb']
    simp only [h, decide_true, Bool.true_and]
    have : 8 * (i / 8) + i % 8 = i := by omega
    rw [this]
    simp; omega
  · rw [List.getD_eq_default _ _ (by simp; omega)]
    simp [h]

/-- A value stored and read in the same order is the value's low `n` bytes (R56). -/
theorem dataValue_dataBytes (e : Endian) (n : Nat) (v : Word) :
    dataValue e (dataBytes e n v) = valueLE (bytesLE n v) := by
  cases e <;> simp [dataValue, dataBytes]

/-! ## What a program reads after a store -/

/-- Where a register and `pc` alone differ, a program reads the same bytes. -/
@[simp] theorem State.byteAt_setReg (s : State) (r : Reg) (v : Word) (x : Nat) :
    (s.setReg r v).byteAt x = s.byteAt x := rfl
@[simp] theorem State.byteAt_advance (s : State) (n : Int) (x : Nat) : (s.advance n).byteAt x = s.byteAt x := rfl
@[simp] theorem State.byteAt_jump (s : State) (n : Int) (x : Nat) : (s.jump n).byteAt x = s.byteAt x := rfl
@[simp] theorem State.byteAt_finish (s : State) (v : Word) (x : Nat) : (s.finish v).byteAt x = s.byteAt x := rfl
@[simp] theorem State.byteAt_branch (s : State) (t : Bool) (o : BitVec 16) (x : Nat) :
    (s.branch t o).byteAt x = s.byteAt x := by
  cases t <;> rfl

/-- Leaving a frame leaves every byte as it was. -/
@[simp] theorem State.byteAt_leaveFrame (s : State) (f : Frame) (rest : List Frame) (x : Nat) :
    (s.leaveFrame f rest).byteAt x = s.byteAt x := rfl

/-- Two states with the same stored byte at an address, draws and platform read the same byte there. -/
theorem State.byteAt_congr {s t : State} (a : Nat) (hm : Memory.get t.mem a = Memory.get s.mem a)
    (hl : t.draws = s.draws) (hp : t.plat = s.plat) : t.byteAt a = s.byteAt a := by
  have hi : t.inStack = s.inStack := by funext x y z; simp [State.inStack, hp]
  simp [State.byteAt, hm, State.drawAt, hl, hi]

/-- Entering a frame leaves every byte outside the new frame's stack as it was. -/
theorem State.byteAt_enterFrame_outside (s : State) (x : Nat)
    (h : s.inStack (s.frameTop (s.frames.length + 1)) x 1 = false) : s.enterFrame.byteAt x = s.byteAt x := by
  have hi : s.enterFrame.inStack = s.inStack := rfl
  have hg : Memory.get s.enterFrame.mem x = Memory.get s.mem x := by
    rw [State.enterFrame_mem, Memory.get_filter s.mem (fun a => !s.inStack (s.frameTop (s.frames.length + 1)) a 1)]
    simp [h]
  have hf : (s.enterFrame.draws.find? fun t => s.inStack t.1 x 1) = s.draws.find? fun t => s.inStack t.1 x 1 := by
    rw [State.enterFrame_draws, List.find?_cons_of_neg (by simp [h]), List.find?_filter]
    congr 1
    funext t
    by_cases e : t.1 = s.frameTop (s.frames.length + 1)
    · simp [e, h]
    · simp [e]
  simp only [State.byteAt, State.drawAt, hg, hi, hf]

/-- Entering a frame gives every byte of the new frame's stack the free value of the draw it takes. -/
theorem State.byteAt_enterFrame_inside (s : State) (x : Nat)
    (h : s.inStack (s.frameTop (s.frames.length + 1)) x 1 = true) :
    s.enterFrame.byteAt x = Config.drawByte s.nextDraw x := by
  have hi : s.enterFrame.inStack = s.inStack := rfl
  have hg : Memory.get s.enterFrame.mem x = none := by
    rw [State.enterFrame_mem, Memory.get_filter s.mem (fun a => !s.inStack (s.frameTop (s.frames.length + 1)) a 1)]
    simp [h]
  simp only [State.byteAt, State.drawAt, hg, hi, State.enterFrame_draws]
  rw [List.find?_cons_of_pos (by simpa using h)]

/-- The live stacks are those of the depths up to the present one (R31, R62). -/
theorem State.inLiveStack_iff (s : State) (a n : Nat) :
    s.inLiveStack a n = true ↔ ∃ j ≤ s.frames.length, s.inStack (s.frameTop j) a n = true := by
  simp [State.inLiveStack, State.liveTops]

/-- A byte that is stored is the byte read. -/
theorem State.byteAt_of_get {s : State} {a : Nat} {b : Byte} (h : Memory.get s.mem a = some b) : s.byteAt a = b := by
  simp [State.byteAt, h]

/-- A store leaves every byte outside it as it was. -/
theorem State.byteAt_store_outside (s : State) (a n : Nat) (v : Word) (x : Nat) (h : x < a ∨ a + n ≤ x) :
    (s.store a n v).byteAt x = s.byteAt x := by
  refine State.byteAt_congr x ?_ (by simp) rfl
  simp only [State.store_mem]
  exact Memory.get_putBytes_outside _ _ _ _ (by simpa using h)

/-- A stored byte is byte `k` of the value in the host's order. -/
theorem State.byteAt_store_inside (s : State) (a n : Nat) (v : Word) (k : Nat) (h : k < n) :
    (s.store a n v).byteAt (a + k) = (dataBytes s.plat.endian n v)[k]'(by simpa using h) :=
  State.byteAt_of_get (Memory.get_putBytes_inside _ _ _ _ (by simpa using h))

end Sys2Proof.Machine
end

