-- ==== Sys2Proof/Laws/Ops.lean ====
section
/-! SUPPORT. Laws/Ops.lean: for each shared operation, what it answers when its conditions hold, and one lemma that says
once everything it can do when it answers a next state. -/

namespace Sys2Proof.Machine

/-! ## Registers and operands -/

theorem readReg_some {s : State} {r : Reg} {v : Word} (h : s.reg r = some v) (k : Word → Out) :
    readReg s r k = k v := by simp [readReg, h]

theorem readReg_none {s : State} {r : Reg} (h : s.reg r = none) (k : Word → Out) :
    readReg s r k = .fault (.uninitRegister r) := by simp [readReg, h, raise]

theorem readReg_next {s t : State} {r : Reg} {k : Word → Out} (h : readReg s r k = .next t) :
    ∃ v, s.reg r = some v ∧ k v = .next t := by
  unfold readReg at h
  split at h
  · exact ⟨_, ‹_›, h⟩
  · cases h

theorem operand64_next {s t : State} {o : Operand} {k : BitVec 64 → Out} (h : operand64 s o k = .next t) :
    ∃ b, k b = .next t ∧
      match o with
      | .imm v => b = v.signExtend 64
      | .reg r => s.reg r = some b := by
  cases o with
  | imm v => exact ⟨_, h, rfl⟩
  | reg r => obtain ⟨v, hr, hk⟩ := readReg_next h; exact ⟨v, hk, hr⟩

theorem operand32_next {s t : State} {o : Operand} {k : BitVec 32 → Out} (h : operand32 s o k = .next t) :
    ∃ b, k b = .next t ∧
      match o with
      | .imm v => b = v
      | .reg r => ∃ x, s.reg r = some x ∧ b = x.setWidth 32 := by
  cases o with
  | imm v => exact ⟨_, h, rfl⟩
  | reg r => obtain ⟨v, hr, hk⟩ := readReg_next h; exact ⟨_, hk, v, hr, rfl⟩

/-! ## The forms of the families -/

theorem alu64_next {f : BitVec 64 → BitVec 64 → BitVec 64} {d : Reg} {o : Operand} {s t : State}
    (h : alu64 f d o s = .next t) : ∃ v, t = s.result d v := by
  obtain ⟨a, _, h⟩ := readReg_next h
  obtain ⟨b, h, _⟩ := operand64_next h
  exact ⟨f a b, by cases h; rfl⟩

theorem alu32_next {f : BitVec 32 → BitVec 32 → BitVec 32} {d : Reg} {o : Operand} {s t : State}
    (h : alu32 f d o s = .next t) : ∃ v : BitVec 32, t = s.result d (v.setWidth 64) := by
  obtain ⟨a, _, h⟩ := readReg_next h
  obtain ⟨b, h, _⟩ := operand32_next h
  exact ⟨f (a.setWidth 32) b, by cases h; rfl⟩

theorem move64_next {d : Reg} {o : Operand} {s t : State} (h : move64 d o s = .next t) : ∃ v, t = s.result d v := by
  obtain ⟨b, h, _⟩ := operand64_next h
  exact ⟨b, by cases h; rfl⟩

theorem move32_next {d : Reg} {o : Operand} {s t : State} (h : move32 d o s = .next t) :
    ∃ v : BitVec 32, t = s.result d (v.setWidth 64) := by
  obtain ⟨b, h, _⟩ := operand32_next h
  exact ⟨b, by cases h; rfl⟩

theorem moveSx_next {n w : Nat} {d r : Reg} {s t : State} (h : moveSx n w d r s = .next t) :
    ∃ v, t = s.result d v := by
  obtain ⟨b, _, h⟩ := readReg_next h
  exact ⟨_, by cases h; rfl⟩

theorem swapForm_next {w : Nat} {f : BitVec w → BitVec w} {d : Reg} {s t : State} (h : swapForm f d s = .next t) :
    ∃ v, t = s.result d v := by
  obtain ⟨a, _, h⟩ := readReg_next h
  exact ⟨_, by cases h; rfl⟩

theorem jump64_next {c : BitVec 64 → BitVec 64 → Bool} {d : Reg} {o : Operand} {off : BitVec 16} {s t : State}
    (h : jump64 c d o off s = .next t) : ∃ taken, t = s.branch taken off := by
  obtain ⟨a, _, h⟩ := readReg_next h
  obtain ⟨b, h, _⟩ := operand64_next h
  exact ⟨c a b, by cases h; rfl⟩

theorem jump32_next {c : BitVec 32 → BitVec 32 → Bool} {d : Reg} {o : Operand} {off : BitVec 16} {s t : State}
    (h : jump32 c d o off s = .next t) : ∃ taken, t = s.branch taken off := by
  obtain ⟨a, _, h⟩ := readReg_next h
  obtain ⟨b, h, _⟩ := operand32_next h
  exact ⟨c (a.setWidth 32) b, by cases h; rfl⟩

/-! ## The memory primitives -/

theorem memRead_ok {s : State} {a : Word} {n : Nat} (ha : s.admits a n .read = true)
    (hal : s.plat.alignStrict = true → aligned a n = true) (k : Word → Out) :
    memRead s a n k = k (s.valueAt a.toNat n) := by
  unfold memRead
  cases h1 : s.plat.alignStrict <;> cases h2 : aligned a n <;> simp_all

theorem memWrite_ok {s : State} {a : Word} {n : Nat} {v : Word} (ha : s.admits a n .write = true)
    (hal : s.plat.alignStrict = true → aligned a n = true) (k : State → Out) :
    memWrite s a n v k = k (s.store a.toNat n v) := by
  unfold memWrite
  cases h1 : s.plat.alignStrict <;> cases h2 : aligned a n <;> simp_all

theorem atomicRMW_ok {s : State} {a : Word} {n : Nat} {f : Word → Word} (ha : s.admits a n .atomic = true)
    (hal : aligned a n = true) (k : Word → State → Out) :
    atomicRMW s a n f k = k (s.valueAt a.toNat n) (s.store a.toNat n (f (s.valueAt a.toNat n))) := by
  simp [atomicRMW, ha, hal]

/-- An admitted range does not pass 2^64 (R62). -/
theorem admits_bound {s : State} {a : Word} {n : Nat} {k : AccessKind} (h : s.admits a n k = true) :
    a.toNat + n ≤ 2 ^ 64 := by
  simp only [State.admits, Bool.and_eq_true, decide_eq_true_eq] at h
  exact h.1

theorem memRead_next {s t : State} {a : Word} {n : Nat} {k : Word → Out} (h : memRead s a n k = .next t) :
    s.admits a n .read = true ∧ (s.plat.alignStrict = true → aligned a n = true) ∧
      k (s.valueAt a.toNat n) = .next t := by
  unfold memRead at h
  split at h
  · split at h
    · cases h
    · rename_i h1 h2
      exact ⟨h1, by simpa using h2, h⟩
  · cases h

theorem memWrite_next {s t : State} {a : Word} {n : Nat} {v : Word} {k : State → Out}
    (h : memWrite s a n v k = .next t) :
    s.admits a n .write = true ∧ (s.plat.alignStrict = true → aligned a n = true) ∧
      k (s.store a.toNat n v) = .next t := by
  unfold memWrite at h
  split at h
  · split at h
    · cases h
    · rename_i h1 h2
      exact ⟨h1, by simpa using h2, h⟩
  · cases h

theorem atomicRMW_next {s t : State} {a : Word} {n : Nat} {f : Word → Word} {k : Word → State → Out}
    (h : atomicRMW s a n f k = .next t) :
    s.admits a n .atomic = true ∧ aligned a n = true ∧
      k (s.valueAt a.toNat n) (s.store a.toNat n (f (s.valueAt a.toNat n))) = .next t := by
  unfold atomicRMW at h
  split at h
  · split at h
    · exact ⟨‹_›, ‹_›, h⟩
    · cases h
  · cases h

theorem loadForm_next {n : Nat} {g : Word → Word} {d r : Reg} {off : BitVec 16} {s t : State}
    (h : loadForm n g d r off s = .next t) : ∃ v, t = (s.setReg d v).advance 1 := by
  obtain ⟨b, _, h⟩ := readReg_next h
  obtain ⟨_, _, h⟩ := memRead_next h
  exact ⟨_, by cases h; rfl⟩

/-- What a store or an atomic leaves: `n` bytes stored at the effective address, an admitted range. -/
theorem storeImm_next {n : Nat} {d : Reg} {off : BitVec 16} {imm : BitVec 32} {s t : State}
    (h : storeImm n d off imm s = .next t) :
    ∃ b, s.reg d = some b ∧ (effAddr b off).toNat + n ≤ 2 ^ 64 ∧
      t = (s.store (effAddr b off).toNat n (imm.signExtend 64)).advance 1 := by
  obtain ⟨b, hb, h⟩ := readReg_next h
  obtain ⟨ha, _, h⟩ := memWrite_next h
  exact ⟨b, hb, admits_bound ha, by cases h; rfl⟩

theorem storeReg_next {n : Nat} {d r : Reg} {off : BitVec 16} {s t : State}
    (h : storeReg n d r off s = .next t) :
    ∃ b v, s.reg d = some b ∧ s.reg r = some v ∧ (effAddr b off).toNat + n ≤ 2 ^ 64 ∧
      t = (s.store (effAddr b off).toNat n v).advance 1 := by
  obtain ⟨b, hb, h⟩ := readReg_next h
  obtain ⟨v, hv, h⟩ := readReg_next h
  obtain ⟨ha, _, h⟩ := memWrite_next h
  exact ⟨b, v, hb, hv, admits_bound ha, by cases h; rfl⟩

theorem atomicPlain_next {n : Nat} {f : Word → Word → Word} {d r : Reg} {off : BitVec 16} {s t : State}
    (h : atomicPlain n f d r off s = .next t) :
    ∃ b v, s.reg d = some b ∧ (effAddr b off).toNat + n ≤ 2 ^ 64 ∧
      t = (s.store (effAddr b off).toNat n v).advance 1 := by
  obtain ⟨b, hb, h⟩ := readReg_next h
  obtain ⟨v, hv, h⟩ := readReg_next h
  obtain ⟨ha, _, h⟩ := atomicRMW_next h
  exact ⟨b, _, hb, admits_bound ha, by cases h; rfl⟩

theorem atomicFetch_next {n : Nat} {f : Word → Word → Word} {d r : Reg} {off : BitVec 16} {s t : State}
    (h : atomicFetch n f d r off s = .next t) :
    ∃ b v, s.reg d = some b ∧ (effAddr b off).toNat + n ≤ 2 ^ 64 ∧
      t = ((s.store (effAddr b off).toNat n v).setReg r (s.valueAt (effAddr b off).toNat n)).advance 1 := by
  obtain ⟨b, hb, h⟩ := readReg_next h
  obtain ⟨v, hv, h⟩ := readReg_next h
  obtain ⟨ha, _, h⟩ := atomicRMW_next h
  exact ⟨b, _, hb, admits_bound ha, by cases h; rfl⟩

theorem atomicCompare_next {n : Nat} {f : Word → Word → Word → Word} {d r : Reg} {off : BitVec 16} {s t : State}
    (h : atomicCompare n f d r off s = .next t) :
    ∃ b v, s.reg d = some b ∧ (effAddr b off).toNat + n ≤ 2 ^ 64 ∧
      t = ((s.store (effAddr b off).toNat n v).setReg .r0 (s.valueAt (effAddr b off).toNat n)).advance 1 := by
  obtain ⟨b, hb, h⟩ := readReg_next h
  obtain ⟨v, hv, h⟩ := readReg_next h
  obtain ⟨c, hc, h⟩ := readReg_next h
  obtain ⟨ha, _, h⟩ := atomicRMW_next h
  exact ⟨b, _, hb, admits_bound ha, by cases h; rfl⟩

/-! ## Wide immediates -/

theorem platformForm_next {v : Option Word} {d : Reg} {s t : State} (h : platformForm v d s = .next t) :
    ∃ a, v = some a ∧ t = s.resultWide d a := by
  cases v with
  | none => cases h
  | some a => exact ⟨a, rfl, by cases h; rfl⟩

theorem mapValueForm_next {m : Option Word} {d : Reg} {nx : BitVec 32} {s t : State}
    (h : mapValueForm m d nx s = .next t) :
    ∃ x a, m = some x ∧ s.plat.mapVal.lookup x = some a ∧ t = s.resultWide d (a + nx.signExtend 64) := by
  cases m with
  | none => cases h
  | some x =>
    simp only [mapValueForm, platformValue] at h
    split at h
    · exact ⟨x, _, rfl, ‹_›, by cases h; rfl⟩
    · cases h

/-! ## Calls and exit -/

theorem callPlatform_next {s t : State} {ref : HelperRef} {id : Int} (h : callPlatform s ref id = .next t) :
    ∃ v ws, s.platformCall ref = some (.returns v ws) ∧ t = (s.afterHelper v ws).advance 1 := by
  unfold callPlatform at h
  split at h
  · cases h
  · cases h
  · exact ⟨_, _, ‹_›, by cases h; rfl⟩

theorem callFrame_next {s t : State} {imm : Int} (h : callFrame s imm = .next t) :
    s.frames.length + 2 ≤ s.plat.maxCallDepth ∧ t = s.enterFrame.jump imm := by
  unfold callFrame at h
  split at h
  · cases h
  · exact ⟨by omega, by cases h; rfl⟩

theorem exitFrame_next {s t : State} (h : exitFrame s = .next t) :
    ∃ v, s.reg .r0 = some v ∧
      (s.frames = [] ∧ t = s.finish v ∨ ∃ f rest, s.frames = f :: rest ∧ t = s.leaveFrame f rest) := by
  obtain ⟨v, hv, h⟩ := readReg_next h
  refine ⟨v, hv, ?_⟩
  split at h
  · exact .inl ⟨‹_›, by cases h; rfl⟩
  · exact .inr ⟨_, _, ‹_›, by cases h; rfl⟩

/-! ## Fetch and step -/

theorem fetchInstr_next {s t : State} {k : Instr → Out} (h : fetchInstr s k = .next t) :
    ∃ i, s.isTarget s.pc = true ∧
      decodeFor s.plat (s.slotAt s.pc.toNat) (s.slotAt? (s.pc.toNat + 1)) = .ok i ∧ k i = .next t := by
  unfold fetchInstr fetch at h
  split at h
  · dsimp only at h
    split at h
    · exact ⟨_, ‹_›, ‹_›, h⟩
    · cases h
  · cases h

/-- If a step answers a next state, the run was going on, a slot of the program starts at `pc` and decodes for the
platform to an instruction, and the next state is what the instruction leaves after the other agents' turn. -/
theorem step_next {s t : State} (h : step s = .next t) :
    s.status = .running ∧ ∃ i, s.isTarget s.pc = true ∧
      decodeFor s.plat (s.slotAt s.pc.toNat) (s.slotAt? (s.pc.toNat + 1)) = .ok i ∧
      exec i s.envTurn = .next t := by
  unfold step at h
  split at h
  · obtain ⟨i, h1, h2, h3⟩ := fetchInstr_next h
    refine ⟨‹_›, i, ?_, ?_, h3⟩
    · simpa [State.isTarget] using h1
    · simpa [State.slotAt, State.slotAt?] using h2
  · cases h

end Sys2Proof.Machine
end

