-- ==== Sys2Proof/Laws/PerInstr.lean ====
section
/-! SUPPORT. Laws/PerInstr.lean: statements about every instruction, one lemma for each constructor. -/

-- In one thread: so many small proofs at once can exhaust the threads that a checker allows.
set_option Elab.async false

namespace Sys2Proof.Laws

/-- The fields of a word made of fields are these fields (R91). -/
theorem fieldsOf_word (f : Fields) : fieldsOf f.word = f := by
  obtain ⟨op, d, s, off, imm⟩ := f
  simp only [fieldsOf, Fields.word, Fields.mk.injEq]
  refine ⟨?_, ?_, ?_, ?_, ?_⟩ <;>
    (apply BitVec.eq_of_getLsbD_eq; intro i hi
     simp only [BitVec.getLsbD_extractLsb', BitVec.getLsbD_append, hi, decide_true, Bool.true_and]
     repeat' split
     all_goals first | omega | (congr 1; omega))

theorem readable_code (r : Reg) (k : Reg → Except Illegal Instr) : readable r.code k = k r := by
  cases r <;> rfl

theorem writable_code {r : Reg} (h : r.isWritable = true) (k : Reg → Except Illegal Instr) :
    writable r.code k = k r := by
  cases r <;> first | rfl | cases h

/-- Decoding the words that the encoder writes for a well-formed instruction gives it back (R91, R118). -/
def RoundTrip.Statement (i : Instr) : Prop :=
  i.wellFormed = true → decodeWords (encode i).1 (encode i).2 = .ok i

/-- Decoding words given by their fields. -/
theorem decodeWords_word (f : Fields) (w : Option (BitVec 64)) : decodeWords f.word w = decodeFields f w := by
  rw [decodeWords, fieldsOf_word]

/-- The parts of the second slot of a wide instruction. -/
theorem second_low (x : BitVec 32) : (Fields.word ⟨0, 0, 0, 0, x⟩).extractLsb' 0 32 = 0 := by
  ext i hi
  simp only [Fields.word, BitVec.getElem_extractLsb', BitVec.getLsbD_append]
  simp
  omega

theorem second_high (x : BitVec 32) : (Fields.word ⟨0, 0, 0, 0, x⟩).extractLsb' 32 32 = x := by
  have h := congrArg Fields.imm (fieldsOf_word ⟨0, 0, 0, 0, x⟩)
  exact h

theorem RoundTrip.add32Imm (dst : Reg) (imm : BitVec 32) : RoundTrip.Statement (.add32Imm dst imm) := by
  intro h
  refine (decodeWords_word _ _).trans ?_
  simp [decodeFields, Fields.cls, Fields.isX, decodeAlu32, Fields.code, aluForm, srcForm, writable_code h]

theorem RoundTrip.add32Reg (dst : Reg) (src : Reg) : RoundTrip.Statement (.add32Reg dst src) := by
  intro h
  refine (decodeWords_word _ _).trans ?_
  simp [decodeFields, Fields.cls, Fields.isX, decodeAlu32, Fields.code, aluForm, srcForm, writable_code h, readable_code]

theorem RoundTrip.add64Imm (dst : Reg) (imm : BitVec 32) : RoundTrip.Statement (.add64Imm dst imm) := by
  intro h
  refine (decodeWords_word _ _).trans ?_
  simp [decodeFields, Fields.cls, Fields.isX, decodeAlu64, Fields.code, aluForm, srcForm, writable_code h]

theorem RoundTrip.add64Reg (dst : Reg) (src : Reg) : RoundTrip.Statement (.add64Reg dst src) := by
  intro h
  refine (decodeWords_word _ _).trans ?_
  simp [decodeFields, Fields.cls, Fields.isX, decodeAlu64, Fields.code, aluForm, srcForm, writable_code h, readable_code]

theorem RoundTrip.sub32Imm (dst : Reg) (imm : BitVec 32) : RoundTrip.Statement (.sub32Imm dst imm) := by
  intro h
  refine (decodeWords_word _ _).trans ?_
  simp [decodeFields, Fields.cls, Fields.isX, decodeAlu32, Fields.code, aluForm, srcForm, writable_code h]

theorem RoundTrip.sub32Reg (dst : Reg) (src : Reg) : RoundTrip.Statement (.sub32Reg dst src) := by
  intro h
  refine (decodeWords_word _ _).trans ?_
  simp [decodeFields, Fields.cls, Fields.isX, decodeAlu32, Fields.code, aluForm, srcForm, writable_code h, readable_code]

theorem RoundTrip.sub64Imm (dst : Reg) (imm : BitVec 32) : RoundTrip.Statement (.sub64Imm dst imm) := by
  intro h
  refine (decodeWords_word _ _).trans ?_
  simp [decodeFields, Fields.cls, Fields.isX, decodeAlu64, Fields.code, aluForm, srcForm, writable_code h]

theorem RoundTrip.sub64Reg (dst : Reg) (src : Reg) : RoundTrip.Statement (.sub64Reg dst src) := by
  intro h
  refine (decodeWords_word _ _).trans ?_
  simp [decodeFields, Fields.cls, Fields.isX, decodeAlu64, Fields.code, aluForm, srcForm, writable_code h, readable_code]

theorem RoundTrip.mul32Imm (dst : Reg) (imm : BitVec 32) : RoundTrip.Statement (.mul32Imm dst imm) := by
  intro h
  refine (decodeWords_word _ _).trans ?_
  simp [decodeFields, Fields.cls, Fields.isX, decodeAlu32, Fields.code, aluForm, srcForm, writable_code h]

theorem RoundTrip.mul32Reg (dst : Reg) (src : Reg) : RoundTrip.Statement (.mul32Reg dst src) := by
  intro h
  refine (decodeWords_word _ _).trans ?_
  simp [decodeFields, Fields.cls, Fields.isX, decodeAlu32, Fields.code, aluForm, srcForm, writable_code h, readable_code]

theorem RoundTrip.mul64Imm (dst : Reg) (imm : BitVec 32) : RoundTrip.Statement (.mul64Imm dst imm) := by
  intro h
  refine (decodeWords_word _ _).trans ?_
  simp [decodeFields, Fields.cls, Fields.isX, decodeAlu64, Fields.code, aluForm, srcForm, writable_code h]

theorem RoundTrip.mul64Reg (dst : Reg) (src : Reg) : RoundTrip.Statement (.mul64Reg dst src) := by
  intro h
  refine (decodeWords_word _ _).trans ?_
  simp [decodeFields, Fields.cls, Fields.isX, decodeAlu64, Fields.code, aluForm, srcForm, writable_code h, readable_code]

theorem RoundTrip.div32Imm (dst : Reg) (imm : BitVec 32) : RoundTrip.Statement (.div32Imm dst imm) := by
  intro h
  refine (decodeWords_word _ _).trans ?_
  simp [decodeFields, Fields.cls, Fields.isX, decodeAlu32, Fields.code, divForm, srcForm, writable_code h]

theorem RoundTrip.div32Reg (dst : Reg) (src : Reg) : RoundTrip.Statement (.div32Reg dst src) := by
  intro h
  refine (decodeWords_word _ _).trans ?_
  simp [decodeFields, Fields.cls, Fields.isX, decodeAlu32, Fields.code, divForm, srcForm, writable_code h, readable_code]

theorem RoundTrip.div64Imm (dst : Reg) (imm : BitVec 32) : RoundTrip.Statement (.div64Imm dst imm) := by
  intro h
  refine (decodeWords_word _ _).trans ?_
  simp [decodeFields, Fields.cls, Fields.isX, decodeAlu64, Fields.code, divForm, srcForm, writable_code h]

theorem RoundTrip.div64Reg (dst : Reg) (src : Reg) : RoundTrip.Statement (.div64Reg dst src) := by
  intro h
  refine (decodeWords_word _ _).trans ?_
  simp [decodeFields, Fields.cls, Fields.isX, decodeAlu64, Fields.code, divForm, srcForm, writable_code h, readable_code]

theorem RoundTrip.sdiv32Imm (dst : Reg) (imm : BitVec 32) : RoundTrip.Statement (.sdiv32Imm dst imm) := by
  intro h
  refine (decodeWords_word _ _).trans ?_
  simp [decodeFields, Fields.cls, Fields.isX, decodeAlu32, Fields.code, divForm, srcForm, writable_code h]

theorem RoundTrip.sdiv32Reg (dst : Reg) (src : Reg) : RoundTrip.Statement (.sdiv32Reg dst src) := by
  intro h
  refine (decodeWords_word _ _).trans ?_
  simp [decodeFields, Fields.cls, Fields.isX, decodeAlu32, Fields.code, divForm, srcForm, writable_code h, readable_code]

theorem RoundTrip.sdiv64Imm (dst : Reg) (imm : BitVec 32) : RoundTrip.Statement (.sdiv64Imm dst imm) := by
  intro h
  refine (decodeWords_word _ _).trans ?_
  simp [decodeFields, Fields.cls, Fields.isX, decodeAlu64, Fields.code, divForm, srcForm, writable_code h]

theorem RoundTrip.sdiv64Reg (dst : Reg) (src : Reg) : RoundTrip.Statement (.sdiv64Reg dst src) := by
  intro h
  refine (decodeWords_word _ _).trans ?_
  simp [decodeFields, Fields.cls, Fields.isX, decodeAlu64, Fields.code, divForm, srcForm, writable_code h, readable_code]

theorem RoundTrip.or32Imm (dst : Reg) (imm : BitVec 32) : RoundTrip.Statement (.or32Imm dst imm) := by
  intro h
  refine (decodeWords_word _ _).trans ?_
  simp [decodeFields, Fields.cls, Fields.isX, decodeAlu32, Fields.code, aluForm, srcForm, writable_code h]

theorem RoundTrip.or32Reg (dst : Reg) (src : Reg) : RoundTrip.Statement (.or32Reg dst src) := by
  intro h
  refine (decodeWords_word _ _).trans ?_
  simp [decodeFields, Fields.cls, Fields.isX, decodeAlu32, Fields.code, aluForm, srcForm, writable_code h, readable_code]

theorem RoundTrip.or64Imm (dst : Reg) (imm : BitVec 32) : RoundTrip.Statement (.or64Imm dst imm) := by
  intro h
  refine (decodeWords_word _ _).trans ?_
  simp [decodeFields, Fields.cls, Fields.isX, decodeAlu64, Fields.code, aluForm, srcForm, writable_code h]

theorem RoundTrip.or64Reg (dst : Reg) (src : Reg) : RoundTrip.Statement (.or64Reg dst src) := by
  intro h
  refine (decodeWords_word _ _).trans ?_
  simp [decodeFields, Fields.cls, Fields.isX, decodeAlu64, Fields.code, aluForm, srcForm, writable_code h, readable_code]

theorem RoundTrip.and32Imm (dst : Reg) (imm : BitVec 32) : RoundTrip.Statement (.and32Imm dst imm) := by
  intro h
  refine (decodeWords_word _ _).trans ?_
  simp [decodeFields, Fields.cls, Fields.isX, decodeAlu32, Fields.code, aluForm, srcForm, writable_code h]

theorem RoundTrip.and32Reg (dst : Reg) (src : Reg) : RoundTrip.Statement (.and32Reg dst src) := by
  intro h
  refine (decodeWords_word _ _).trans ?_
  simp [decodeFields, Fields.cls, Fields.isX, decodeAlu32, Fields.code, aluForm, srcForm, writable_code h, readable_code]

theorem RoundTrip.and64Imm (dst : Reg) (imm : BitVec 32) : RoundTrip.Statement (.and64Imm dst imm) := by
  intro h
  refine (decodeWords_word _ _).trans ?_
  simp [decodeFields, Fields.cls, Fields.isX, decodeAlu64, Fields.code, aluForm, srcForm, writable_code h]

theorem RoundTrip.and64Reg (dst : Reg) (src : Reg) : RoundTrip.Statement (.and64Reg dst src) := by
  intro h
  refine (decodeWords_word _ _).trans ?_
  simp [decodeFields, Fields.cls, Fields.isX, decodeAlu64, Fields.code, aluForm, srcForm, writable_code h, readable_code]

theorem RoundTrip.lsh32Imm (dst : Reg) (imm : BitVec 32) : RoundTrip.Statement (.lsh32Imm dst imm) := by
  intro h
  refine (decodeWords_word _ _).trans ?_
  simp [decodeFields, Fields.cls, Fields.isX, decodeAlu32, Fields.code, aluForm, srcForm, writable_code h]

theorem RoundTrip.lsh32Reg (dst : Reg) (src : Reg) : RoundTrip.Statement (.lsh32Reg dst src) := by
  intro h
  refine (decodeWords_word _ _).trans ?_
  simp [decodeFields, Fields.cls, Fields.isX, decodeAlu32, Fields.code, aluForm, srcForm, writable_code h, readable_code]

theorem RoundTrip.lsh64Imm (dst : Reg) (imm : BitVec 32) : RoundTrip.Statement (.lsh64Imm dst imm) := by
  intro h
  refine (decodeWords_word _ _).trans ?_
  simp [decodeFields, Fields.cls, Fields.isX, decodeAlu64, Fields.code, aluForm, srcForm, writable_code h]

theorem RoundTrip.lsh64Reg (dst : Reg) (src : Reg) : RoundTrip.Statement (.lsh64Reg dst src) := by
  intro h
  refine (decodeWords_word _ _).trans ?_
  simp [decodeFields, Fields.cls, Fields.isX, decodeAlu64, Fields.code, aluForm, srcForm, writable_code h, readable_code]

theorem RoundTrip.rsh32Imm (dst : Reg) (imm : BitVec 32) : RoundTrip.Statement (.rsh32Imm dst imm) := by
  intro h
  refine (decodeWords_word _ _).trans ?_
  simp [decodeFields, Fields.cls, Fields.isX, decodeAlu32, Fields.code, aluForm, srcForm, writable_code h]

theorem RoundTrip.rsh32Reg (dst : Reg) (src : Reg) : RoundTrip.Statement (.rsh32Reg dst src) := by
  intro h
  refine (decodeWords_word _ _).trans ?_
  simp [decodeFields, Fields.cls, Fields.isX, decodeAlu32, Fields.code, aluForm, srcForm, writable_code h, readable_code]

theorem RoundTrip.rsh64Imm (dst : Reg) (imm : BitVec 32) : RoundTrip.Statement (.rsh64Imm dst imm) := by
  intro h
  refine (decodeWords_word _ _).trans ?_
  simp [decodeFields, Fields.cls, Fields.isX, decodeAlu64, Fields.code, aluForm, srcForm, writable_code h]

theorem RoundTrip.rsh64Reg (dst : Reg) (src : Reg) : RoundTrip.Statement (.rsh64Reg dst src) := by
  intro h
  refine (decodeWords_word _ _).trans ?_
  simp [decodeFields, Fields.cls, Fields.isX, decodeAlu64, Fields.code, aluForm, srcForm, writable_code h, readable_code]

theorem RoundTrip.mod32Imm (dst : Reg) (imm : BitVec 32) : RoundTrip.Statement (.mod32Imm dst imm) := by
  intro h
  refine (decodeWords_word _ _).trans ?_
  simp [decodeFields, Fields.cls, Fields.isX, decodeAlu32, Fields.code, divForm, srcForm, writable_code h]

theorem RoundTrip.mod32Reg (dst : Reg) (src : Reg) : RoundTrip.Statement (.mod32Reg dst src) := by
  intro h
  refine (decodeWords_word _ _).trans ?_
  simp [decodeFields, Fields.cls, Fields.isX, decodeAlu32, Fields.code, divForm, srcForm, writable_code h, readable_code]

theorem RoundTrip.mod64Imm (dst : Reg) (imm : BitVec 32) : RoundTrip.Statement (.mod64Imm dst imm) := by
  intro h
  refine (decodeWords_word _ _).trans ?_
  simp [decodeFields, Fields.cls, Fields.isX, decodeAlu64, Fields.code, divForm, srcForm, writable_code h]

theorem RoundTrip.mod64Reg (dst : Reg) (src : Reg) : RoundTrip.Statement (.mod64Reg dst src) := by
  intro h
  refine (decodeWords_word _ _).trans ?_
  simp [decodeFields, Fields.cls, Fields.isX, decodeAlu64, Fields.code, divForm, srcForm, writable_code h, readable_code]

theorem RoundTrip.smod32Imm (dst : Reg) (imm : BitVec 32) : RoundTrip.Statement (.smod32Imm dst imm) := by
  intro h
  refine (decodeWords_word _ _).trans ?_
  simp [decodeFields, Fields.cls, Fields.isX, decodeAlu32, Fields.code, divForm, srcForm, writable_code h]

theorem RoundTrip.smod32Reg (dst : Reg) (src : Reg) : RoundTrip.Statement (.smod32Reg dst src) := by
  intro h
  refine (decodeWords_word _ _).trans ?_
  simp [decodeFields, Fields.cls, Fields.isX, decodeAlu32, Fields.code, divForm, srcForm, writable_code h, readable_code]

theorem RoundTrip.smod64Imm (dst : Reg) (imm : BitVec 32) : RoundTrip.Statement (.smod64Imm dst imm) := by
  intro h
  refine (decodeWords_word _ _).trans ?_
  simp [decodeFields, Fields.cls, Fields.isX, decodeAlu64, Fields.code, divForm, srcForm, writable_code h]

theorem RoundTrip.smod64Reg (dst : Reg) (src : Reg) : RoundTrip.Statement (.smod64Reg dst src) := by
  intro h
  refine (decodeWords_word _ _).trans ?_
  simp [decodeFields, Fields.cls, Fields.isX, decodeAlu64, Fields.code, divForm, srcForm, writable_code h, readable_code]

theorem RoundTrip.xor32Imm (dst : Reg) (imm : BitVec 32) : RoundTrip.Statement (.xor32Imm dst imm) := by
  intro h
  refine (decodeWords_word _ _).trans ?_
  simp [decodeFields, Fields.cls, Fields.isX, decodeAlu32, Fields.code, aluForm, srcForm, writable_code h]

theorem RoundTrip.xor32Reg (dst : Reg) (src : Reg) : RoundTrip.Statement (.xor32Reg dst src) := by
  intro h
  refine (decodeWords_word _ _).trans ?_
  simp [decodeFields, Fields.cls, Fields.isX, decodeAlu32, Fields.code, aluForm, srcForm, writable_code h, readable_code]

theorem RoundTrip.xor64Imm (dst : Reg) (imm : BitVec 32) : RoundTrip.Statement (.xor64Imm dst imm) := by
  intro h
  refine (decodeWords_word _ _).trans ?_
  simp [decodeFields, Fields.cls, Fields.isX, decodeAlu64, Fields.code, aluForm, srcForm, writable_code h]

theorem RoundTrip.xor64Reg (dst : Reg) (src : Reg) : RoundTrip.Statement (.xor64Reg dst src) := by
  intro h
  refine (decodeWords_word _ _).trans ?_
  simp [decodeFields, Fields.cls, Fields.isX, decodeAlu64, Fields.code, aluForm, srcForm, writable_code h, readable_code]

theorem RoundTrip.mov32Imm (dst : Reg) (imm : BitVec 32) : RoundTrip.Statement (.mov32Imm dst imm) := by
  intro h
  refine (decodeWords_word _ _).trans ?_
  simp [decodeFields, Fields.cls, Fields.isX, decodeAlu32, Fields.code, srcForm, writable_code h]

theorem RoundTrip.mov32Reg (dst : Reg) (src : Reg) : RoundTrip.Statement (.mov32Reg dst src) := by
  intro h
  refine (decodeWords_word _ _).trans ?_
  simp [decodeFields, Fields.cls, Fields.isX, decodeAlu32, Fields.code, srcForm, writable_code h, readable_code]

theorem RoundTrip.mov64Imm (dst : Reg) (imm : BitVec 32) : RoundTrip.Statement (.mov64Imm dst imm) := by
  intro h
  refine (decodeWords_word _ _).trans ?_
  simp [decodeFields, Fields.cls, Fields.isX, decodeAlu64, Fields.code, srcForm, writable_code h]

theorem RoundTrip.mov64Reg (dst : Reg) (src : Reg) : RoundTrip.Statement (.mov64Reg dst src) := by
  intro h
  refine (decodeWords_word _ _).trans ?_
  simp [decodeFields, Fields.cls, Fields.isX, decodeAlu64, Fields.code, srcForm, writable_code h, readable_code]

theorem RoundTrip.arsh32Imm (dst : Reg) (imm : BitVec 32) : RoundTrip.Statement (.arsh32Imm dst imm) := by
  intro h
  refine (decodeWords_word _ _).trans ?_
  simp [decodeFields, Fields.cls, Fields.isX, decodeAlu32, Fields.code, aluForm, srcForm, writable_code h]

theorem RoundTrip.arsh32Reg (dst : Reg) (src : Reg) : RoundTrip.Statement (.arsh32Reg dst src) := by
  intro h
  refine (decodeWords_word _ _).trans ?_
  simp [decodeFields, Fields.cls, Fields.isX, decodeAlu32, Fields.code, aluForm, srcForm, writable_code h, readable_code]

theorem RoundTrip.arsh64Imm (dst : Reg) (imm : BitVec 32) : RoundTrip.Statement (.arsh64Imm dst imm) := by
  intro h
  refine (decodeWords_word _ _).trans ?_
  simp [decodeFields, Fields.cls, Fields.isX, decodeAlu64, Fields.code, aluForm, srcForm, writable_code h]

theorem RoundTrip.arsh64Reg (dst : Reg) (src : Reg) : RoundTrip.Statement (.arsh64Reg dst src) := by
  intro h
  refine (decodeWords_word _ _).trans ?_
  simp [decodeFields, Fields.cls, Fields.isX, decodeAlu64, Fields.code, aluForm, srcForm, writable_code h, readable_code]

theorem RoundTrip.neg32 (dst : Reg) : RoundTrip.Statement (.neg32 dst) := by
  intro h
  refine (decodeWords_word _ _).trans ?_
  simp [decodeFields, Fields.cls, Fields.isX, decodeAlu32, Fields.code, negForm, writable_code h]

theorem RoundTrip.neg64 (dst : Reg) : RoundTrip.Statement (.neg64 dst) := by
  intro h
  refine (decodeWords_word _ _).trans ?_
  simp [decodeFields, Fields.cls, Fields.isX, decodeAlu64, Fields.code, negForm, writable_code h]

theorem RoundTrip.movsx32From8 (dst : Reg) (src : Reg) : RoundTrip.Statement (.movsx32From8 dst src) := by
  intro h
  refine (decodeWords_word _ _).trans ?_
  simp [decodeFields, Fields.cls, Fields.isX, decodeAlu32, Fields.code, moveForm, writable_code h, readable_code]

theorem RoundTrip.movsx32From16 (dst : Reg) (src : Reg) : RoundTrip.Statement (.movsx32From16 dst src) := by
  intro h
  refine (decodeWords_word _ _).trans ?_
  simp [decodeFields, Fields.cls, Fields.isX, decodeAlu32, Fields.code, moveForm, writable_code h, readable_code]

theorem RoundTrip.movsx64From8 (dst : Reg) (src : Reg) : RoundTrip.Statement (.movsx64From8 dst src) := by
  intro h
  refine (decodeWords_word _ _).trans ?_
  simp [decodeFields, Fields.cls, Fields.isX, decodeAlu64, Fields.code, moveForm, writable_code h, readable_code]

theorem RoundTrip.movsx64From16 (dst : Reg) (src : Reg) : RoundTrip.Statement (.movsx64From16 dst src) := by
  intro h
  refine (decodeWords_word _ _).trans ?_
  simp [decodeFields, Fields.cls, Fields.isX, decodeAlu64, Fields.code, moveForm, writable_code h, readable_code]

theorem RoundTrip.movsx64From32 (dst : Reg) (src : Reg) : RoundTrip.Statement (.movsx64From32 dst src) := by
  intro h
  refine (decodeWords_word _ _).trans ?_
  simp [decodeFields, Fields.cls, Fields.isX, decodeAlu64, Fields.code, moveForm, writable_code h, readable_code]

theorem RoundTrip.le16 (dst : Reg) : RoundTrip.Statement (.le16 dst) := by
  intro h
  refine (decodeWords_word _ _).trans ?_
  simp [decodeFields, Fields.cls, Fields.isX, decodeAlu32, Fields.code, endForm, writable_code h]

theorem RoundTrip.le32 (dst : Reg) : RoundTrip.Statement (.le32 dst) := by
  intro h
  refine (decodeWords_word _ _).trans ?_
  simp [decodeFields, Fields.cls, Fields.isX, decodeAlu32, Fields.code, endForm, writable_code h]

theorem RoundTrip.le64 (dst : Reg) : RoundTrip.Statement (.le64 dst) := by
  intro h
  refine (decodeWords_word _ _).trans ?_
  simp [decodeFields, Fields.cls, Fields.isX, decodeAlu32, Fields.code, endForm, writable_code h]

theorem RoundTrip.be16 (dst : Reg) : RoundTrip.Statement (.be16 dst) := by
  intro h
  refine (decodeWords_word _ _).trans ?_
  simp [decodeFields, Fields.cls, Fields.isX, decodeAlu32, Fields.code, endForm, writable_code h]

theorem RoundTrip.be32 (dst : Reg) : RoundTrip.Statement (.be32 dst) := by
  intro h
  refine (decodeWords_word _ _).trans ?_
  simp [decodeFields, Fields.cls, Fields.isX, decodeAlu32, Fields.code, endForm, writable_code h]

theorem RoundTrip.be64 (dst : Reg) : RoundTrip.Statement (.be64 dst) := by
  intro h
  refine (decodeWords_word _ _).trans ?_
  simp [decodeFields, Fields.cls, Fields.isX, decodeAlu32, Fields.code, endForm, writable_code h]

theorem RoundTrip.bswap16 (dst : Reg) : RoundTrip.Statement (.bswap16 dst) := by
  intro h
  refine (decodeWords_word _ _).trans ?_
  simp [decodeFields, Fields.cls, Fields.isX, decodeAlu64, Fields.code, endForm, writable_code h]

theorem RoundTrip.bswap32 (dst : Reg) : RoundTrip.Statement (.bswap32 dst) := by
  intro h
  refine (decodeWords_word _ _).trans ?_
  simp [decodeFields, Fields.cls, Fields.isX, decodeAlu64, Fields.code, endForm, writable_code h]

theorem RoundTrip.bswap64 (dst : Reg) : RoundTrip.Statement (.bswap64 dst) := by
  intro h
  refine (decodeWords_word _ _).trans ?_
  simp [decodeFields, Fields.cls, Fields.isX, decodeAlu64, Fields.code, endForm, writable_code h]

theorem RoundTrip.ja (offset : BitVec 16) : RoundTrip.Statement (.ja offset) := by
  intro _
  refine (decodeWords_word _ _).trans ?_
  simp [decodeFields, Fields.cls, Fields.isX, decodeJmp64, Fields.code]

theorem RoundTrip.ja32 (imm : BitVec 32) : RoundTrip.Statement (.ja32 imm) := by
  intro _
  refine (decodeWords_word _ _).trans ?_
  simp [decodeFields, Fields.cls, Fields.isX, decodeJmp32, Fields.code]

theorem RoundTrip.jeq64Imm (dst : Reg) (imm : BitVec 32) (offset : BitVec 16) : RoundTrip.Statement (.jeq64Imm dst imm offset) := by
  intro _
  refine (decodeWords_word _ _).trans ?_
  simp [decodeFields, Fields.cls, Fields.isX, decodeJmp64, Fields.code, jccForm, readable_code]

theorem RoundTrip.jeq64Reg (dst : Reg) (src : Reg) (offset : BitVec 16) : RoundTrip.Statement (.jeq64Reg dst src offset) := by
  intro _
  refine (decodeWords_word _ _).trans ?_
  simp [decodeFields, Fields.cls, Fields.isX, decodeJmp64, Fields.code, jccForm, readable_code]

theorem RoundTrip.jeq32Imm (dst : Reg) (imm : BitVec 32) (offset : BitVec 16) : RoundTrip.Statement (.jeq32Imm dst imm offset) := by
  intro _
  refine (decodeWords_word _ _).trans ?_
  simp [decodeFields, Fields.cls, Fields.isX, decodeJmp32, Fields.code, jccForm, readable_code]

theorem RoundTrip.jeq32Reg (dst : Reg) (src : Reg) (offset : BitVec 16) : RoundTrip.Statement (.jeq32Reg dst src offset) := by
  intro _
  refine (decodeWords_word _ _).trans ?_
  simp [decodeFields, Fields.cls, Fields.isX, decodeJmp32, Fields.code, jccForm, readable_code]

theorem RoundTrip.jgt64Imm (dst : Reg) (imm : BitVec 32) (offset : BitVec 16) : RoundTrip.Statement (.jgt64Imm dst imm offset) := by
  intro _
  refine (decodeWords_word _ _).trans ?_
  simp [decodeFields, Fields.cls, Fields.isX, decodeJmp64, Fields.code, jccForm, readable_code]

theorem RoundTrip.jgt64Reg (dst : Reg) (src : Reg) (offset : BitVec 16) : RoundTrip.Statement (.jgt64Reg dst src offset) := by
  intro _
  refine (decodeWords_word _ _).trans ?_
  simp [decodeFields, Fields.cls, Fields.isX, decodeJmp64, Fields.code, jccForm, readable_code]

theorem RoundTrip.jgt32Imm (dst : Reg) (imm : BitVec 32) (offset : BitVec 16) : RoundTrip.Statement (.jgt32Imm dst imm offset) := by
  intro _
  refine (decodeWords_word _ _).trans ?_
  simp [decodeFields, Fields.cls, Fields.isX, decodeJmp32, Fields.code, jccForm, readable_code]

theorem RoundTrip.jgt32Reg (dst : Reg) (src : Reg) (offset : BitVec 16) : RoundTrip.Statement (.jgt32Reg dst src offset) := by
  intro _
  refine (decodeWords_word _ _).trans ?_
  simp [decodeFields, Fields.cls, Fields.isX, decodeJmp32, Fields.code, jccForm, readable_code]

theorem RoundTrip.jge64Imm (dst : Reg) (imm : BitVec 32) (offset : BitVec 16) : RoundTrip.Statement (.jge64Imm dst imm offset) := by
  intro _
  refine (decodeWords_word _ _).trans ?_
  simp [decodeFields, Fields.cls, Fields.isX, decodeJmp64, Fields.code, jccForm, readable_code]

theorem RoundTrip.jge64Reg (dst : Reg) (src : Reg) (offset : BitVec 16) : RoundTrip.Statement (.jge64Reg dst src offset) := by
  intro _
  refine (decodeWords_word _ _).trans ?_
  simp [decodeFields, Fields.cls, Fields.isX, decodeJmp64, Fields.code, jccForm, readable_code]

theorem RoundTrip.jge32Imm (dst : Reg) (imm : BitVec 32) (offset : BitVec 16) : RoundTrip.Statement (.jge32Imm dst imm offset) := by
  intro _
  refine (decodeWords_word _ _).trans ?_
  simp [decodeFields, Fields.cls, Fields.isX, decodeJmp32, Fields.code, jccForm, readable_code]

theorem RoundTrip.jge32Reg (dst : Reg) (src : Reg) (offset : BitVec 16) : RoundTrip.Statement (.jge32Reg dst src offset) := by
  intro _
  refine (decodeWords_word _ _).trans ?_
  simp [decodeFields, Fields.cls, Fields.isX, decodeJmp32, Fields.code, jccForm, readable_code]

theorem RoundTrip.jset64Imm (dst : Reg) (imm : BitVec 32) (offset : BitVec 16) : RoundTrip.Statement (.jset64Imm dst imm offset) := by
  intro _
  refine (decodeWords_word _ _).trans ?_
  simp [decodeFields, Fields.cls, Fields.isX, decodeJmp64, Fields.code, jccForm, readable_code]

theorem RoundTrip.jset64Reg (dst : Reg) (src : Reg) (offset : BitVec 16) : RoundTrip.Statement (.jset64Reg dst src offset) := by
  intro _
  refine (decodeWords_word _ _).trans ?_
  simp [decodeFields, Fields.cls, Fields.isX, decodeJmp64, Fields.code, jccForm, readable_code]

theorem RoundTrip.jset32Imm (dst : Reg) (imm : BitVec 32) (offset : BitVec 16) : RoundTrip.Statement (.jset32Imm dst imm offset) := by
  intro _
  refine (decodeWords_word _ _).trans ?_
  simp [decodeFields, Fields.cls, Fields.isX, decodeJmp32, Fields.code, jccForm, readable_code]

theorem RoundTrip.jset32Reg (dst : Reg) (src : Reg) (offset : BitVec 16) : RoundTrip.Statement (.jset32Reg dst src offset) := by
  intro _
  refine (decodeWords_word _ _).trans ?_
  simp [decodeFields, Fields.cls, Fields.isX, decodeJmp32, Fields.code, jccForm, readable_code]

theorem RoundTrip.jne64Imm (dst : Reg) (imm : BitVec 32) (offset : BitVec 16) : RoundTrip.Statement (.jne64Imm dst imm offset) := by
  intro _
  refine (decodeWords_word _ _).trans ?_
  simp [decodeFields, Fields.cls, Fields.isX, decodeJmp64, Fields.code, jccForm, readable_code]

theorem RoundTrip.jne64Reg (dst : Reg) (src : Reg) (offset : BitVec 16) : RoundTrip.Statement (.jne64Reg dst src offset) := by
  intro _
  refine (decodeWords_word _ _).trans ?_
  simp [decodeFields, Fields.cls, Fields.isX, decodeJmp64, Fields.code, jccForm, readable_code]

theorem RoundTrip.jne32Imm (dst : Reg) (imm : BitVec 32) (offset : BitVec 16) : RoundTrip.Statement (.jne32Imm dst imm offset) := by
  intro _
  refine (decodeWords_word _ _).trans ?_
  simp [decodeFields, Fields.cls, Fields.isX, decodeJmp32, Fields.code, jccForm, readable_code]

theorem RoundTrip.jne32Reg (dst : Reg) (src : Reg) (offset : BitVec 16) : RoundTrip.Statement (.jne32Reg dst src offset) := by
  intro _
  refine (decodeWords_word _ _).trans ?_
  simp [decodeFields, Fields.cls, Fields.isX, decodeJmp32, Fields.code, jccForm, readable_code]

theorem RoundTrip.jsgt64Imm (dst : Reg) (imm : BitVec 32) (offset : BitVec 16) : RoundTrip.Statement (.jsgt64Imm dst imm offset) := by
  intro _
  refine (decodeWords_word _ _).trans ?_
  simp [decodeFields, Fields.cls, Fields.isX, decodeJmp64, Fields.code, jccForm, readable_code]

theorem RoundTrip.jsgt64Reg (dst : Reg) (src : Reg) (offset : BitVec 16) : RoundTrip.Statement (.jsgt64Reg dst src offset) := by
  intro _
  refine (decodeWords_word _ _).trans ?_
  simp [decodeFields, Fields.cls, Fields.isX, decodeJmp64, Fields.code, jccForm, readable_code]

theorem RoundTrip.jsgt32Imm (dst : Reg) (imm : BitVec 32) (offset : BitVec 16) : RoundTrip.Statement (.jsgt32Imm dst imm offset) := by
  intro _
  refine (decodeWords_word _ _).trans ?_
  simp [decodeFields, Fields.cls, Fields.isX, decodeJmp32, Fields.code, jccForm, readable_code]

theorem RoundTrip.jsgt32Reg (dst : Reg) (src : Reg) (offset : BitVec 16) : RoundTrip.Statement (.jsgt32Reg dst src offset) := by
  intro _
  refine (decodeWords_word _ _).trans ?_
  simp [decodeFields, Fields.cls, Fields.isX, decodeJmp32, Fields.code, jccForm, readable_code]

theorem RoundTrip.jsge64Imm (dst : Reg) (imm : BitVec 32) (offset : BitVec 16) : RoundTrip.Statement (.jsge64Imm dst imm offset) := by
  intro _
  refine (decodeWords_word _ _).trans ?_
  simp [decodeFields, Fields.cls, Fields.isX, decodeJmp64, Fields.code, jccForm, readable_code]

theorem RoundTrip.jsge64Reg (dst : Reg) (src : Reg) (offset : BitVec 16) : RoundTrip.Statement (.jsge64Reg dst src offset) := by
  intro _
  refine (decodeWords_word _ _).trans ?_
  simp [decodeFields, Fields.cls, Fields.isX, decodeJmp64, Fields.code, jccForm, readable_code]

theorem RoundTrip.jsge32Imm (dst : Reg) (imm : BitVec 32) (offset : BitVec 16) : RoundTrip.Statement (.jsge32Imm dst imm offset) := by
  intro _
  refine (decodeWords_word _ _).trans ?_
  simp [decodeFields, Fields.cls, Fields.isX, decodeJmp32, Fields.code, jccForm, readable_code]

theorem RoundTrip.jsge32Reg (dst : Reg) (src : Reg) (offset : BitVec 16) : RoundTrip.Statement (.jsge32Reg dst src offset) := by
  intro _
  refine (decodeWords_word _ _).trans ?_
  simp [decodeFields, Fields.cls, Fields.isX, decodeJmp32, Fields.code, jccForm, readable_code]

theorem RoundTrip.jlt64Imm (dst : Reg) (imm : BitVec 32) (offset : BitVec 16) : RoundTrip.Statement (.jlt64Imm dst imm offset) := by
  intro _
  refine (decodeWords_word _ _).trans ?_
  simp [decodeFields, Fields.cls, Fields.isX, decodeJmp64, Fields.code, jccForm, readable_code]

theorem RoundTrip.jlt64Reg (dst : Reg) (src : Reg) (offset : BitVec 16) : RoundTrip.Statement (.jlt64Reg dst src offset) := by
  intro _
  refine (decodeWords_word _ _).trans ?_
  simp [decodeFields, Fields.cls, Fields.isX, decodeJmp64, Fields.code, jccForm, readable_code]

theorem RoundTrip.jlt32Imm (dst : Reg) (imm : BitVec 32) (offset : BitVec 16) : RoundTrip.Statement (.jlt32Imm dst imm offset) := by
  intro _
  refine (decodeWords_word _ _).trans ?_
  simp [decodeFields, Fields.cls, Fields.isX, decodeJmp32, Fields.code, jccForm, readable_code]

theorem RoundTrip.jlt32Reg (dst : Reg) (src : Reg) (offset : BitVec 16) : RoundTrip.Statement (.jlt32Reg dst src offset) := by
  intro _
  refine (decodeWords_word _ _).trans ?_
  simp [decodeFields, Fields.cls, Fields.isX, decodeJmp32, Fields.code, jccForm, readable_code]

theorem RoundTrip.jle64Imm (dst : Reg) (imm : BitVec 32) (offset : BitVec 16) : RoundTrip.Statement (.jle64Imm dst imm offset) := by
  intro _
  refine (decodeWords_word _ _).trans ?_
  simp [decodeFields, Fields.cls, Fields.isX, decodeJmp64, Fields.code, jccForm, readable_code]

theorem RoundTrip.jle64Reg (dst : Reg) (src : Reg) (offset : BitVec 16) : RoundTrip.Statement (.jle64Reg dst src offset) := by
  intro _
  refine (decodeWords_word _ _).trans ?_
  simp [decodeFields, Fields.cls, Fields.isX, decodeJmp64, Fields.code, jccForm, readable_code]

theorem RoundTrip.jle32Imm (dst : Reg) (imm : BitVec 32) (offset : BitVec 16) : RoundTrip.Statement (.jle32Imm dst imm offset) := by
  intro _
  refine (decodeWords_word _ _).trans ?_
  simp [decodeFields, Fields.cls, Fields.isX, decodeJmp32, Fields.code, jccForm, readable_code]

theorem RoundTrip.jle32Reg (dst : Reg) (src : Reg) (offset : BitVec 16) : RoundTrip.Statement (.jle32Reg dst src offset) := by
  intro _
  refine (decodeWords_word _ _).trans ?_
  simp [decodeFields, Fields.cls, Fields.isX, decodeJmp32, Fields.code, jccForm, readable_code]

theorem RoundTrip.jslt64Imm (dst : Reg) (imm : BitVec 32) (offset : BitVec 16) : RoundTrip.Statement (.jslt64Imm dst imm offset) := by
  intro _
  refine (decodeWords_word _ _).trans ?_
  simp [decodeFields, Fields.cls, Fields.isX, decodeJmp64, Fields.code, jccForm, readable_code]

theorem RoundTrip.jslt64Reg (dst : Reg) (src : Reg) (offset : BitVec 16) : RoundTrip.Statement (.jslt64Reg dst src offset) := by
  intro _
  refine (decodeWords_word _ _).trans ?_
  simp [decodeFields, Fields.cls, Fields.isX, decodeJmp64, Fields.code, jccForm, readable_code]

theorem RoundTrip.jslt32Imm (dst : Reg) (imm : BitVec 32) (offset : BitVec 16) : RoundTrip.Statement (.jslt32Imm dst imm offset) := by
  intro _
  refine (decodeWords_word _ _).trans ?_
  simp [decodeFields, Fields.cls, Fields.isX, decodeJmp32, Fields.code, jccForm, readable_code]

theorem RoundTrip.jslt32Reg (dst : Reg) (src : Reg) (offset : BitVec 16) : RoundTrip.Statement (.jslt32Reg dst src offset) := by
  intro _
  refine (decodeWords_word _ _).trans ?_
  simp [decodeFields, Fields.cls, Fields.isX, decodeJmp32, Fields.code, jccForm, readable_code]

theorem RoundTrip.jsle64Imm (dst : Reg) (imm : BitVec 32) (offset : BitVec 16) : RoundTrip.Statement (.jsle64Imm dst imm offset) := by
  intro _
  refine (decodeWords_word _ _).trans ?_
  simp [decodeFields, Fields.cls, Fields.isX, decodeJmp64, Fields.code, jccForm, readable_code]

theorem RoundTrip.jsle64Reg (dst : Reg) (src : Reg) (offset : BitVec 16) : RoundTrip.Statement (.jsle64Reg dst src offset) := by
  intro _
  refine (decodeWords_word _ _).trans ?_
  simp [decodeFields, Fields.cls, Fields.isX, decodeJmp64, Fields.code, jccForm, readable_code]

theorem RoundTrip.jsle32Imm (dst : Reg) (imm : BitVec 32) (offset : BitVec 16) : RoundTrip.Statement (.jsle32Imm dst imm offset) := by
  intro _
  refine (decodeWords_word _ _).trans ?_
  simp [decodeFields, Fields.cls, Fields.isX, decodeJmp32, Fields.code, jccForm, readable_code]

theorem RoundTrip.jsle32Reg (dst : Reg) (src : Reg) (offset : BitVec 16) : RoundTrip.Statement (.jsle32Reg dst src offset) := by
  intro _
  refine (decodeWords_word _ _).trans ?_
  simp [decodeFields, Fields.cls, Fields.isX, decodeJmp32, Fields.code, jccForm, readable_code]

theorem RoundTrip.callHelper (imm : BitVec 32) : RoundTrip.Statement (.callHelper imm) := by
  intro _
  refine (decodeWords_word _ _).trans ?_
  simp [decodeFields, Fields.cls, Fields.isX, decodeJmp64, Fields.code]

theorem RoundTrip.callLocal (imm : BitVec 32) : RoundTrip.Statement (.callLocal imm) := by
  intro _
  refine (decodeWords_word _ _).trans ?_
  simp [decodeFields, Fields.cls, Fields.isX, decodeJmp64, Fields.code]

theorem RoundTrip.callBtf (offset : BitVec 16) (imm : BitVec 32) : RoundTrip.Statement (.callBtf offset imm) := by
  intro _
  refine (decodeWords_word _ _).trans ?_
  simp [decodeFields, Fields.cls, Fields.isX, decodeJmp64, Fields.code]

theorem RoundTrip.exit : RoundTrip.Statement .exit := by
  intro _
  refine (decodeWords_word _ _).trans ?_
  simp [decodeFields, Fields.cls, Fields.isX, decodeJmp64, Fields.code]

theorem RoundTrip.ldxw (dst : Reg) (src : Reg) (offset : BitVec 16) : RoundTrip.Statement (.ldxw dst src offset) := by
  intro h
  refine (decodeWords_word _ _).trans ?_
  simp [decodeFields, Fields.cls, decodeLdx, Fields.mode, Fields.sz, ldxForm, writable_code h, readable_code]

theorem RoundTrip.ldxh (dst : Reg) (src : Reg) (offset : BitVec 16) : RoundTrip.Statement (.ldxh dst src offset) := by
  intro h
  refine (decodeWords_word _ _).trans ?_
  simp [decodeFields, Fields.cls, decodeLdx, Fields.mode, Fields.sz, ldxForm, writable_code h, readable_code]

theorem RoundTrip.ldxb (dst : Reg) (src : Reg) (offset : BitVec 16) : RoundTrip.Statement (.ldxb dst src offset) := by
  intro h
  refine (decodeWords_word _ _).trans ?_
  simp [decodeFields, Fields.cls, decodeLdx, Fields.mode, Fields.sz, ldxForm, writable_code h, readable_code]

theorem RoundTrip.ldxdw (dst : Reg) (src : Reg) (offset : BitVec 16) : RoundTrip.Statement (.ldxdw dst src offset) := by
  intro h
  refine (decodeWords_word _ _).trans ?_
  simp [decodeFields, Fields.cls, decodeLdx, Fields.mode, Fields.sz, ldxForm, writable_code h, readable_code]

theorem RoundTrip.ldxsw (dst : Reg) (src : Reg) (offset : BitVec 16) : RoundTrip.Statement (.ldxsw dst src offset) := by
  intro h
  refine (decodeWords_word _ _).trans ?_
  simp [decodeFields, Fields.cls, decodeLdx, Fields.mode, Fields.sz, ldxForm, writable_code h, readable_code]

theorem RoundTrip.ldxsh (dst : Reg) (src : Reg) (offset : BitVec 16) : RoundTrip.Statement (.ldxsh dst src offset) := by
  intro h
  refine (decodeWords_word _ _).trans ?_
  simp [decodeFields, Fields.cls, decodeLdx, Fields.mode, Fields.sz, ldxForm, writable_code h, readable_code]

theorem RoundTrip.ldxsb (dst : Reg) (src : Reg) (offset : BitVec 16) : RoundTrip.Statement (.ldxsb dst src offset) := by
  intro h
  refine (decodeWords_word _ _).trans ?_
  simp [decodeFields, Fields.cls, decodeLdx, Fields.mode, Fields.sz, ldxForm, writable_code h, readable_code]

theorem RoundTrip.stw (dst : Reg) (offset : BitVec 16) (imm : BitVec 32) : RoundTrip.Statement (.stw dst offset imm) := by
  intro _
  refine (decodeWords_word _ _).trans ?_
  simp [decodeFields, Fields.cls, decodeSt, Fields.mode, Fields.sz, stForm, readable_code]

theorem RoundTrip.sth (dst : Reg) (offset : BitVec 16) (imm : BitVec 32) : RoundTrip.Statement (.sth dst offset imm) := by
  intro _
  refine (decodeWords_word _ _).trans ?_
  simp [decodeFields, Fields.cls, decodeSt, Fields.mode, Fields.sz, stForm, readable_code]

theorem RoundTrip.stb (dst : Reg) (offset : BitVec 16) (imm : BitVec 32) : RoundTrip.Statement (.stb dst offset imm) := by
  intro _
  refine (decodeWords_word _ _).trans ?_
  simp [decodeFields, Fields.cls, decodeSt, Fields.mode, Fields.sz, stForm, readable_code]

theorem RoundTrip.stdw (dst : Reg) (offset : BitVec 16) (imm : BitVec 32) : RoundTrip.Statement (.stdw dst offset imm) := by
  intro _
  refine (decodeWords_word _ _).trans ?_
  simp [decodeFields, Fields.cls, decodeSt, Fields.mode, Fields.sz, stForm, readable_code]

theorem RoundTrip.stxw (dst : Reg) (src : Reg) (offset : BitVec 16) : RoundTrip.Statement (.stxw dst src offset) := by
  intro _
  refine (decodeWords_word _ _).trans ?_
  simp [decodeFields, Fields.cls, decodeStx, Fields.mode, Fields.sz, stxForm, readable_code]

theorem RoundTrip.stxh (dst : Reg) (src : Reg) (offset : BitVec 16) : RoundTrip.Statement (.stxh dst src offset) := by
  intro _
  refine (decodeWords_word _ _).trans ?_
  simp [decodeFields, Fields.cls, decodeStx, Fields.mode, Fields.sz, stxForm, readable_code]

theorem RoundTrip.stxb (dst : Reg) (src : Reg) (offset : BitVec 16) : RoundTrip.Statement (.stxb dst src offset) := by
  intro _
  refine (decodeWords_word _ _).trans ?_
  simp [decodeFields, Fields.cls, decodeStx, Fields.mode, Fields.sz, stxForm, readable_code]

theorem RoundTrip.stxdw (dst : Reg) (src : Reg) (offset : BitVec 16) : RoundTrip.Statement (.stxdw dst src offset) := by
  intro _
  refine (decodeWords_word _ _).trans ?_
  simp [decodeFields, Fields.cls, decodeStx, Fields.mode, Fields.sz, stxForm, readable_code]

theorem RoundTrip.atomicAdd32 (dst : Reg) (src : Reg) (offset : BitVec 16) : RoundTrip.Statement (.atomicAdd32 dst src offset) := by
  intro _
  refine (decodeWords_word _ _).trans ?_
  simp [decodeFields, Fields.cls, decodeStx, Fields.mode, Fields.sz, decodeAtomic32, atomicForm, readable_code]

theorem RoundTrip.atomicFetchAdd32 (dst : Reg) (src : Reg) (offset : BitVec 16) : RoundTrip.Statement (.atomicFetchAdd32 dst src offset) := by
  intro h
  refine (decodeWords_word _ _).trans ?_
  simp [decodeFields, Fields.cls, decodeStx, Fields.mode, Fields.sz, decodeAtomic32, fetchForm, writable_code h, readable_code]

theorem RoundTrip.atomicOr32 (dst : Reg) (src : Reg) (offset : BitVec 16) : RoundTrip.Statement (.atomicOr32 dst src offset) := by
  intro _
  refine (decodeWords_word _ _).trans ?_
  simp [decodeFields, Fields.cls, decodeStx, Fields.mode, Fields.sz, decodeAtomic32, atomicForm, readable_code]

theorem RoundTrip.atomicFetchOr32 (dst : Reg) (src : Reg) (offset : BitVec 16) : RoundTrip.Statement (.atomicFetchOr32 dst src offset) := by
  intro h
  refine (decodeWords_word _ _).trans ?_
  simp [decodeFields, Fields.cls, decodeStx, Fields.mode, Fields.sz, decodeAtomic32, fetchForm, writable_code h, readable_code]

theorem RoundTrip.atomicAnd32 (dst : Reg) (src : Reg) (offset : BitVec 16) : RoundTrip.Statement (.atomicAnd32 dst src offset) := by
  intro _
  refine (decodeWords_word _ _).trans ?_
  simp [decodeFields, Fields.cls, decodeStx, Fields.mode, Fields.sz, decodeAtomic32, atomicForm, readable_code]

theorem RoundTrip.atomicFetchAnd32 (dst : Reg) (src : Reg) (offset : BitVec 16) : RoundTrip.Statement (.atomicFetchAnd32 dst src offset) := by
  intro h
  refine (decodeWords_word _ _).trans ?_
  simp [decodeFields, Fields.cls, decodeStx, Fields.mode, Fields.sz, decodeAtomic32, fetchForm, writable_code h, readable_code]

theorem RoundTrip.atomicXor32 (dst : Reg) (src : Reg) (offset : BitVec 16) : RoundTrip.Statement (.atomicXor32 dst src offset) := by
  intro _
  refine (decodeWords_word _ _).trans ?_
  simp [decodeFields, Fields.cls, decodeStx, Fields.mode, Fields.sz, decodeAtomic32, atomicForm, readable_code]

theorem RoundTrip.atomicFetchXor32 (dst : Reg) (src : Reg) (offset : BitVec 16) : RoundTrip.Statement (.atomicFetchXor32 dst src offset) := by
  intro h
  refine (decodeWords_word _ _).trans ?_
  simp [decodeFields, Fields.cls, decodeStx, Fields.mode, Fields.sz, decodeAtomic32, fetchForm, writable_code h, readable_code]

theorem RoundTrip.atomicAdd64 (dst : Reg) (src : Reg) (offset : BitVec 16) : RoundTrip.Statement (.atomicAdd64 dst src offset) := by
  intro _
  refine (decodeWords_word _ _).trans ?_
  simp [decodeFields, Fields.cls, decodeStx, Fields.mode, Fields.sz, decodeAtomic64, atomicForm, readable_code]

theorem RoundTrip.atomicFetchAdd64 (dst : Reg) (src : Reg) (offset : BitVec 16) : RoundTrip.Statement (.atomicFetchAdd64 dst src offset) := by
  intro h
  refine (decodeWords_word _ _).trans ?_
  simp [decodeFields, Fields.cls, decodeStx, Fields.mode, Fields.sz, decodeAtomic64, fetchForm, writable_code h, readable_code]

theorem RoundTrip.atomicOr64 (dst : Reg) (src : Reg) (offset : BitVec 16) : RoundTrip.Statement (.atomicOr64 dst src offset) := by
  intro _
  refine (decodeWords_word _ _).trans ?_
  simp [decodeFields, Fields.cls, decodeStx, Fields.mode, Fields.sz, decodeAtomic64, atomicForm, readable_code]

theorem RoundTrip.atomicFetchOr64 (dst : Reg) (src : Reg) (offset : BitVec 16) : RoundTrip.Statement (.atomicFetchOr64 dst src offset) := by
  intro h
  refine (decodeWords_word _ _).trans ?_
  simp [decodeFields, Fields.cls, decodeStx, Fields.mode, Fields.sz, decodeAtomic64, fetchForm, writable_code h, readable_code]

theorem RoundTrip.atomicAnd64 (dst : Reg) (src : Reg) (offset : BitVec 16) : RoundTrip.Statement (.atomicAnd64 dst src offset) := by
  intro _
  refine (decodeWords_word _ _).trans ?_
  simp [decodeFields, Fields.cls, decodeStx, Fields.mode, Fields.sz, decodeAtomic64, atomicForm, readable_code]

theorem RoundTrip.atomicFetchAnd64 (dst : Reg) (src : Reg) (offset : BitVec 16) : RoundTrip.Statement (.atomicFetchAnd64 dst src offset) := by
  intro h
  refine (decodeWords_word _ _).trans ?_
  simp [decodeFields, Fields.cls, decodeStx, Fields.mode, Fields.sz, decodeAtomic64, fetchForm, writable_code h, readable_code]

theorem RoundTrip.atomicXor64 (dst : Reg) (src : Reg) (offset : BitVec 16) : RoundTrip.Statement (.atomicXor64 dst src offset) := by
  intro _
  refine (decodeWords_word _ _).trans ?_
  simp [decodeFields, Fields.cls, decodeStx, Fields.mode, Fields.sz, decodeAtomic64, atomicForm, readable_code]

theorem RoundTrip.atomicFetchXor64 (dst : Reg) (src : Reg) (offset : BitVec 16) : RoundTrip.Statement (.atomicFetchXor64 dst src offset) := by
  intro h
  refine (decodeWords_word _ _).trans ?_
  simp [decodeFields, Fields.cls, decodeStx, Fields.mode, Fields.sz, decodeAtomic64, fetchForm, writable_code h, readable_code]

theorem RoundTrip.atomicXchg32 (dst : Reg) (src : Reg) (offset : BitVec 16) : RoundTrip.Statement (.atomicXchg32 dst src offset) := by
  intro h
  refine (decodeWords_word _ _).trans ?_
  simp [decodeFields, Fields.cls, decodeStx, Fields.mode, Fields.sz, decodeAtomic32, fetchForm, writable_code h, readable_code]

theorem RoundTrip.atomicXchg64 (dst : Reg) (src : Reg) (offset : BitVec 16) : RoundTrip.Statement (.atomicXchg64 dst src offset) := by
  intro h
  refine (decodeWords_word _ _).trans ?_
  simp [decodeFields, Fields.cls, decodeStx, Fields.mode, Fields.sz, decodeAtomic64, fetchForm, writable_code h, readable_code]

theorem RoundTrip.atomicCmpxchg32 (dst : Reg) (src : Reg) (offset : BitVec 16) : RoundTrip.Statement (.atomicCmpxchg32 dst src offset) := by
  intro _
  refine (decodeWords_word _ _).trans ?_
  simp [decodeFields, Fields.cls, decodeStx, Fields.mode, Fields.sz, decodeAtomic32, atomicForm, readable_code]

theorem RoundTrip.atomicCmpxchg64 (dst : Reg) (src : Reg) (offset : BitVec 16) : RoundTrip.Statement (.atomicCmpxchg64 dst src offset) := by
  intro _
  refine (decodeWords_word _ _).trans ?_
  simp [decodeFields, Fields.cls, decodeStx, Fields.mode, Fields.sz, decodeAtomic64, atomicForm, readable_code]

/-- A wide instruction decodes by `src_reg`, once its second slot is as it must be (R96). -/
theorem decodeWide_second (f : Fields) (x : BitVec 32) (h : f.opcode = 0x18 := by rfl) :
    decodeFields f (some (Fields.word ⟨0, 0, 0, 0, x⟩)) =
      match f.src.toNat with
      | 0 => imm64Form f x .lddw
      | 1 => imm32Form f x .ldMapFd
      | 2 => imm64Form f x .ldMapFdVal
      | 3 => imm32Form f x .ldVarAddr
      | 4 => imm32Form f x .ldCodeAddr
      | 5 => imm32Form f x .ldMapIdx
      | 6 => imm64Form f x .ldMapIdxVal
      | _ => .error .badSelector := by
  obtain ⟨op, d, s, off, imm⟩ := f
  subst h
  refine Eq.trans (b := decodeWide ⟨0x18, d, s, off, imm⟩ (some (Fields.word ⟨0, 0, 0, 0, x⟩))) ?_ ?_
  · simp [decodeFields, Fields.cls, decodeLd, Fields.mode, Fields.sz]
  · rw [decodeWide, second_low, second_high]
    exact if_neg (fun h => h rfl)

theorem RoundTrip.lddw (dst : Reg) (imm : BitVec 32) (nextImm : BitVec 32) : RoundTrip.Statement (.lddw dst imm nextImm) := by
  intro h
  refine (decodeWords_word _ _).trans ?_
  refine (decodeWide_second _ nextImm).trans ?_
  exact writable_code h (fun d => .ok (.lddw d imm nextImm))

theorem RoundTrip.ldMapFd (dst : Reg) (imm : BitVec 32) : RoundTrip.Statement (.ldMapFd dst imm) := by
  intro h
  refine (decodeWords_word _ _).trans ?_
  refine (decodeWide_second _ 0).trans ?_
  exact writable_code h (fun d => .ok (.ldMapFd d imm))

theorem RoundTrip.ldMapFdVal (dst : Reg) (imm : BitVec 32) (nextImm : BitVec 32) : RoundTrip.Statement (.ldMapFdVal dst imm nextImm) := by
  intro h
  refine (decodeWords_word _ _).trans ?_
  refine (decodeWide_second _ nextImm).trans ?_
  exact writable_code h (fun d => .ok (.ldMapFdVal d imm nextImm))

theorem RoundTrip.ldVarAddr (dst : Reg) (imm : BitVec 32) : RoundTrip.Statement (.ldVarAddr dst imm) := by
  intro h
  refine (decodeWords_word _ _).trans ?_
  refine (decodeWide_second _ 0).trans ?_
  exact writable_code h (fun d => .ok (.ldVarAddr d imm))

theorem RoundTrip.ldCodeAddr (dst : Reg) (imm : BitVec 32) : RoundTrip.Statement (.ldCodeAddr dst imm) := by
  intro h
  refine (decodeWords_word _ _).trans ?_
  refine (decodeWide_second _ 0).trans ?_
  exact writable_code h (fun d => .ok (.ldCodeAddr d imm))

theorem RoundTrip.ldMapIdx (dst : Reg) (imm : BitVec 32) : RoundTrip.Statement (.ldMapIdx dst imm) := by
  intro h
  refine (decodeWords_word _ _).trans ?_
  refine (decodeWide_second _ 0).trans ?_
  exact writable_code h (fun d => .ok (.ldMapIdx d imm))

theorem RoundTrip.ldMapIdxVal (dst : Reg) (imm : BitVec 32) (nextImm : BitVec 32) : RoundTrip.Statement (.ldMapIdxVal dst imm nextImm) := by
  intro h
  refine (decodeWords_word _ _).trans ?_
  refine (decodeWide_second _ nextImm).trans ?_
  exact writable_code h (fun d => .ok (.ldMapIdxVal d imm nextImm))

theorem RoundTrip.ldabsw (imm : BitVec 32) : RoundTrip.Statement (.ldabsw imm) := by
  intro _
  refine (decodeWords_word _ _).trans ?_
  simp [decodeFields, Fields.cls, decodeLd, Fields.mode, Fields.sz, absForm]

theorem RoundTrip.ldabsh (imm : BitVec 32) : RoundTrip.Statement (.ldabsh imm) := by
  intro _
  refine (decodeWords_word _ _).trans ?_
  simp [decodeFields, Fields.cls, decodeLd, Fields.mode, Fields.sz, absForm]

theorem RoundTrip.ldabsb (imm : BitVec 32) : RoundTrip.Statement (.ldabsb imm) := by
  intro _
  refine (decodeWords_word _ _).trans ?_
  simp [decodeFields, Fields.cls, decodeLd, Fields.mode, Fields.sz, absForm]

theorem RoundTrip.ldindw (src : Reg) (imm : BitVec 32) : RoundTrip.Statement (.ldindw src imm) := by
  intro _
  refine (decodeWords_word _ _).trans ?_
  simp [decodeFields, Fields.cls, decodeLd, Fields.mode, Fields.sz, indForm, readable_code]

theorem RoundTrip.ldindh (src : Reg) (imm : BitVec 32) : RoundTrip.Statement (.ldindh src imm) := by
  intro _
  refine (decodeWords_word _ _).trans ?_
  simp [decodeFields, Fields.cls, decodeLd, Fields.mode, Fields.sz, indForm, readable_code]

theorem RoundTrip.ldindb (src : Reg) (imm : BitVec 32) : RoundTrip.Statement (.ldindb src imm) := by
  intro _
  refine (decodeWords_word _ _).trans ?_
  simp [decodeFields, Fields.cls, decodeLd, Fields.mode, Fields.sz, indForm, readable_code]

end Sys2Proof.Laws
end

