-- ==== Sys2Proof/Laws/Exec.lean ====
section
/-! SUPPORT. Laws/Exec.lean: one lemma that says everything an instruction can do when it answers a next state, so that a
claim over all instructions is a case analysis over eleven shapes and not over 170 meanings. -/

-- In one thread: so many small proofs at once can exhaust the threads that a checker allows.
set_option Elab.async false

namespace Sys2Proof.Machine

/-! ## The opcode and the class of an encoding -/

theorem opcode_word (f : Fields) : f.word.extractLsb' 0 8 = f.opcode :=
  congrArg Fields.opcode (Laws.fieldsOf_word f)

theorem class_word (f : Fields) : f.word.extractLsb' 0 3 = f.opcode.extractLsb' 0 3 := by
  rw [← opcode_word f]
  ext i hi
  simp only [BitVec.getElem_extractLsb', BitVec.getLsbD_extractLsb']
  simp
  omega

/-! ## The shapes of a next state -/

/-- What an instruction that answers a next state has done: its shape, with the facts of the tables of Safety.lean and of
its encoding that go with it. -/
inductive Shape (i : Instr) (s t : State) : Prop where
  /-- One register written: arithmetic, swaps, loads. -/
  | result (d : Reg) (v : Word) (hw : writesOf i = [d])
      (ha : accessOf i = none ∨ ∃ q off n, accessOf i = some (q, off, n, .read))
      (hf : i.wellFormed = true → d.isWritable = true) (hl : i.slots = 1) (hc : isCallOrExit i = false)
      (h32 : classOf i = 4 → i.group ≠ .base64 → v.toNat < 2 ^ 32) (ht : t = s.result d v)
  /-- One register written by a wide instruction. -/
  | resultWide (d : Reg) (v : Word) (hw : writesOf i = [d]) (ha : accessOf i = none)
      (hf : i.wellFormed = true → d.isWritable = true) (hl : i.slots = 2) (hc : isCallOrExit i = false)
      (hk : classOf i = 0) (ht : t = s.resultWide d v)
  /-- A conditional jump. -/
  | branch (taken : Bool) (off : BitVec 16) (hw : writesOf i = []) (ha : accessOf i = none)
      (hc : isCallOrExit i = false) (hk : classOf i = 5 ∨ classOf i = 6) (ht : t = s.branch taken off)
  /-- An unconditional jump. -/
  | jump (n : Int) (hw : writesOf i = []) (ha : accessOf i = none)
      (hc : isCallOrExit i = false) (hk : classOf i = 5 ∨ classOf i = 6) (ht : t = s.jump n)
  /-- A store, or an atomic that writes no register. -/
  | store (q : Reg) (off : BitVec 16) (n : Nat) (kind : AccessKind) (b v : Word) (hw : writesOf i = [])
      (ha : accessOf i = some (q, off, n, kind)) (hk : kind ≠ .read) (hb : s.reg q = some b)
      (hn : (effAddr b off).toNat + n ≤ 2 ^ 64) (hl : i.slots = 1) (hc : isCallOrExit i = false)
      (h4 : classOf i = 2 ∨ classOf i = 3)
      (ht : t = (s.store (effAddr b off).toNat n v).advance 1)
  /-- An atomic that writes a register. -/
  | fetch (q : Reg) (off : BitVec 16) (n : Nat) (b v : Word) (r : Reg) (old : Word) (hw : writesOf i = [r])
      (ha : accessOf i = some (q, off, n, .atomic)) (hb : s.reg q = some b)
      (hn : (effAddr b off).toNat + n ≤ 2 ^ 64) (hf : i.wellFormed = true → r.isWritable = true)
      (hl : i.slots = 1) (hc : isCallOrExit i = false) (h3 : classOf i = 3)
      (ht : t = ((s.store (effAddr b off).toNat n v).setReg r old).advance 1)
  /-- A call of a platform function. -/
  | helper (v : Word) (ws : List (Word × Byte)) (hw : writesOf i = [.r0, .r1, .r2, .r3, .r4, .r5])
      (ha : accessOf i = none) (hc : isCallOrExit i = true) (hk : classOf i = 5)
      (ht : t = (s.afterHelper v ws).advance 1)
  /-- A program-local call. -/
  | call (imm : BitVec 32) (hi : i = .callLocal imm) (hd : s.frames.length + 2 ≤ s.plat.maxCallDepth)
      (hc : isCallOrExit i = true) (hk : classOf i = 5) (ht : t = s.enterFrame.jump imm.toInt)
  /-- `EXIT` in the entry function. -/
  | finish (v : Word) (hi : i = .exit) (hv : s.reg .r0 = some v) (he : s.frames = [])
      (hc : isCallOrExit i = true) (hk : classOf i = 5) (ht : t = s.finish v)
  /-- `EXIT` in a called function. -/
  | leave (f : Frame) (rest : List Frame) (hi : i = .exit) (he : s.frames = f :: rest)
      (hc : isCallOrExit i = true) (hk : classOf i = 5) (ht : t = s.leaveFrame f rest)

theorem setWidth32_lt (v : BitVec 32) : (v.setWidth 64).toNat < 2 ^ 32 := by
  rw [BitVec.toNat_setWidth]
  exact Nat.lt_of_le_of_lt (Nat.mod_le _ _) v.isLt

theorem setWidth16_lt (v : BitVec 16) : (v.setWidth 64).toNat < 2 ^ 32 := by
  rw [BitVec.toNat_setWidth]
  exact Nat.lt_of_le_of_lt (Nat.mod_le _ _) (Nat.lt_of_lt_of_le v.isLt (by decide))

/-- If an instruction answers a next state, it has done what one of the shapes says. -/
theorem exec_shape {i : Instr} {s t : State} (h : exec i s = .next t) : Shape i s t := by
  cases i with
  | add32Imm dst imm =>
    obtain ⟨v, ht⟩ := alu32_next h
    exact .result dst _ rfl (.inl rfl) id rfl (by simp [isCallOrExit, opcodeOf, encode, opcode_word]) (fun _ _ => setWidth32_lt v) ht
  | add32Reg dst src =>
    obtain ⟨v, ht⟩ := alu32_next h
    exact .result dst _ rfl (.inl rfl) id rfl (by simp [isCallOrExit, opcodeOf, encode, opcode_word]) (fun _ _ => setWidth32_lt v) ht
  | add64Imm dst imm =>
    obtain ⟨v, ht⟩ := alu64_next h
    exact .result dst v rfl (.inl rfl) id rfl (by simp [isCallOrExit, opcodeOf, encode, opcode_word]) (fun e => absurd e (by simp [classOf, encode, class_word])) ht
  | add64Reg dst src =>
    obtain ⟨v, ht⟩ := alu64_next h
    exact .result dst v rfl (.inl rfl) id rfl (by simp [isCallOrExit, opcodeOf, encode, opcode_word]) (fun e => absurd e (by simp [classOf, encode, class_word])) ht
  | sub32Imm dst imm =>
    obtain ⟨v, ht⟩ := alu32_next h
    exact .result dst _ rfl (.inl rfl) id rfl (by simp [isCallOrExit, opcodeOf, encode, opcode_word]) (fun _ _ => setWidth32_lt v) ht
  | sub32Reg dst src =>
    obtain ⟨v, ht⟩ := alu32_next h
    exact .result dst _ rfl (.inl rfl) id rfl (by simp [isCallOrExit, opcodeOf, encode, opcode_word]) (fun _ _ => setWidth32_lt v) ht
  | sub64Imm dst imm =>
    obtain ⟨v, ht⟩ := alu64_next h
    exact .result dst v rfl (.inl rfl) id rfl (by simp [isCallOrExit, opcodeOf, encode, opcode_word]) (fun e => absurd e (by simp [classOf, encode, class_word])) ht
  | sub64Reg dst src =>
    obtain ⟨v, ht⟩ := alu64_next h
    exact .result dst v rfl (.inl rfl) id rfl (by simp [isCallOrExit, opcodeOf, encode, opcode_word]) (fun e => absurd e (by simp [classOf, encode, class_word])) ht
  | mul32Imm dst imm =>
    obtain ⟨v, ht⟩ := alu32_next h
    exact .result dst _ rfl (.inl rfl) id rfl (by simp [isCallOrExit, opcodeOf, encode, opcode_word]) (fun _ _ => setWidth32_lt v) ht
  | mul32Reg dst src =>
    obtain ⟨v, ht⟩ := alu32_next h
    exact .result dst _ rfl (.inl rfl) id rfl (by simp [isCallOrExit, opcodeOf, encode, opcode_word]) (fun _ _ => setWidth32_lt v) ht
  | mul64Imm dst imm =>
    obtain ⟨v, ht⟩ := alu64_next h
    exact .result dst v rfl (.inl rfl) id rfl (by simp [isCallOrExit, opcodeOf, encode, opcode_word]) (fun e => absurd e (by simp [classOf, encode, class_word])) ht
  | mul64Reg dst src =>
    obtain ⟨v, ht⟩ := alu64_next h
    exact .result dst v rfl (.inl rfl) id rfl (by simp [isCallOrExit, opcodeOf, encode, opcode_word]) (fun e => absurd e (by simp [classOf, encode, class_word])) ht
  | div32Imm dst imm =>
    obtain ⟨v, ht⟩ := alu32_next h
    exact .result dst _ rfl (.inl rfl) id rfl (by simp [isCallOrExit, opcodeOf, encode, opcode_word]) (fun _ _ => setWidth32_lt v) ht
  | div32Reg dst src =>
    obtain ⟨v, ht⟩ := alu32_next h
    exact .result dst _ rfl (.inl rfl) id rfl (by simp [isCallOrExit, opcodeOf, encode, opcode_word]) (fun _ _ => setWidth32_lt v) ht
  | div64Imm dst imm =>
    obtain ⟨v, ht⟩ := alu64_next h
    exact .result dst v rfl (.inl rfl) id rfl (by simp [isCallOrExit, opcodeOf, encode, opcode_word]) (fun e => absurd e (by simp [classOf, encode, class_word])) ht
  | div64Reg dst src =>
    obtain ⟨v, ht⟩ := alu64_next h
    exact .result dst v rfl (.inl rfl) id rfl (by simp [isCallOrExit, opcodeOf, encode, opcode_word]) (fun e => absurd e (by simp [classOf, encode, class_word])) ht
  | sdiv32Imm dst imm =>
    obtain ⟨v, ht⟩ := alu32_next h
    exact .result dst _ rfl (.inl rfl) id rfl (by simp [isCallOrExit, opcodeOf, encode, opcode_word]) (fun _ _ => setWidth32_lt v) ht
  | sdiv32Reg dst src =>
    obtain ⟨v, ht⟩ := alu32_next h
    exact .result dst _ rfl (.inl rfl) id rfl (by simp [isCallOrExit, opcodeOf, encode, opcode_word]) (fun _ _ => setWidth32_lt v) ht
  | sdiv64Imm dst imm =>
    obtain ⟨v, ht⟩ := alu64_next h
    exact .result dst v rfl (.inl rfl) id rfl (by simp [isCallOrExit, opcodeOf, encode, opcode_word]) (fun e => absurd e (by simp [classOf, encode, class_word])) ht
  | sdiv64Reg dst src =>
    obtain ⟨v, ht⟩ := alu64_next h
    exact .result dst v rfl (.inl rfl) id rfl (by simp [isCallOrExit, opcodeOf, encode, opcode_word]) (fun e => absurd e (by simp [classOf, encode, class_word])) ht
  | or32Imm dst imm =>
    obtain ⟨v, ht⟩ := alu32_next h
    exact .result dst _ rfl (.inl rfl) id rfl (by simp [isCallOrExit, opcodeOf, encode, opcode_word]) (fun _ _ => setWidth32_lt v) ht
  | or32Reg dst src =>
    obtain ⟨v, ht⟩ := alu32_next h
    exact .result dst _ rfl (.inl rfl) id rfl (by simp [isCallOrExit, opcodeOf, encode, opcode_word]) (fun _ _ => setWidth32_lt v) ht
  | or64Imm dst imm =>
    obtain ⟨v, ht⟩ := alu64_next h
    exact .result dst v rfl (.inl rfl) id rfl (by simp [isCallOrExit, opcodeOf, encode, opcode_word]) (fun e => absurd e (by simp [classOf, encode, class_word])) ht
  | or64Reg dst src =>
    obtain ⟨v, ht⟩ := alu64_next h
    exact .result dst v rfl (.inl rfl) id rfl (by simp [isCallOrExit, opcodeOf, encode, opcode_word]) (fun e => absurd e (by simp [classOf, encode, class_word])) ht
  | and32Imm dst imm =>
    obtain ⟨v, ht⟩ := alu32_next h
    exact .result dst _ rfl (.inl rfl) id rfl (by simp [isCallOrExit, opcodeOf, encode, opcode_word]) (fun _ _ => setWidth32_lt v) ht
  | and32Reg dst src =>
    obtain ⟨v, ht⟩ := alu32_next h
    exact .result dst _ rfl (.inl rfl) id rfl (by simp [isCallOrExit, opcodeOf, encode, opcode_word]) (fun _ _ => setWidth32_lt v) ht
  | and64Imm dst imm =>
    obtain ⟨v, ht⟩ := alu64_next h
    exact .result dst v rfl (.inl rfl) id rfl (by simp [isCallOrExit, opcodeOf, encode, opcode_word]) (fun e => absurd e (by simp [classOf, encode, class_word])) ht
  | and64Reg dst src =>
    obtain ⟨v, ht⟩ := alu64_next h
    exact .result dst v rfl (.inl rfl) id rfl (by simp [isCallOrExit, opcodeOf, encode, opcode_word]) (fun e => absurd e (by simp [classOf, encode, class_word])) ht
  | lsh32Imm dst imm =>
    obtain ⟨v, ht⟩ := alu32_next h
    exact .result dst _ rfl (.inl rfl) id rfl (by simp [isCallOrExit, opcodeOf, encode, opcode_word]) (fun _ _ => setWidth32_lt v) ht
  | lsh32Reg dst src =>
    obtain ⟨v, ht⟩ := alu32_next h
    exact .result dst _ rfl (.inl rfl) id rfl (by simp [isCallOrExit, opcodeOf, encode, opcode_word]) (fun _ _ => setWidth32_lt v) ht
  | lsh64Imm dst imm =>
    obtain ⟨v, ht⟩ := alu64_next h
    exact .result dst v rfl (.inl rfl) id rfl (by simp [isCallOrExit, opcodeOf, encode, opcode_word]) (fun e => absurd e (by simp [classOf, encode, class_word])) ht
  | lsh64Reg dst src =>
    obtain ⟨v, ht⟩ := alu64_next h
    exact .result dst v rfl (.inl rfl) id rfl (by simp [isCallOrExit, opcodeOf, encode, opcode_word]) (fun e => absurd e (by simp [classOf, encode, class_word])) ht
  | rsh32Imm dst imm =>
    obtain ⟨v, ht⟩ := alu32_next h
    exact .result dst _ rfl (.inl rfl) id rfl (by simp [isCallOrExit, opcodeOf, encode, opcode_word]) (fun _ _ => setWidth32_lt v) ht
  | rsh32Reg dst src =>
    obtain ⟨v, ht⟩ := alu32_next h
    exact .result dst _ rfl (.inl rfl) id rfl (by simp [isCallOrExit, opcodeOf, encode, opcode_word]) (fun _ _ => setWidth32_lt v) ht
  | rsh64Imm dst imm =>
    obtain ⟨v, ht⟩ := alu64_next h
    exact .result dst v rfl (.inl rfl) id rfl (by simp [isCallOrExit, opcodeOf, encode, opcode_word]) (fun e => absurd e (by simp [classOf, encode, class_word])) ht
  | rsh64Reg dst src =>
    obtain ⟨v, ht⟩ := alu64_next h
    exact .result dst v rfl (.inl rfl) id rfl (by simp [isCallOrExit, opcodeOf, encode, opcode_word]) (fun e => absurd e (by simp [classOf, encode, class_word])) ht
  | mod32Imm dst imm =>
    obtain ⟨v, ht⟩ := alu32_next h
    exact .result dst _ rfl (.inl rfl) id rfl (by simp [isCallOrExit, opcodeOf, encode, opcode_word]) (fun _ _ => setWidth32_lt v) ht
  | mod32Reg dst src =>
    obtain ⟨v, ht⟩ := alu32_next h
    exact .result dst _ rfl (.inl rfl) id rfl (by simp [isCallOrExit, opcodeOf, encode, opcode_word]) (fun _ _ => setWidth32_lt v) ht
  | mod64Imm dst imm =>
    obtain ⟨v, ht⟩ := alu64_next h
    exact .result dst v rfl (.inl rfl) id rfl (by simp [isCallOrExit, opcodeOf, encode, opcode_word]) (fun e => absurd e (by simp [classOf, encode, class_word])) ht
  | mod64Reg dst src =>
    obtain ⟨v, ht⟩ := alu64_next h
    exact .result dst v rfl (.inl rfl) id rfl (by simp [isCallOrExit, opcodeOf, encode, opcode_word]) (fun e => absurd e (by simp [classOf, encode, class_word])) ht
  | smod32Imm dst imm =>
    obtain ⟨v, ht⟩ := alu32_next h
    exact .result dst _ rfl (.inl rfl) id rfl (by simp [isCallOrExit, opcodeOf, encode, opcode_word]) (fun _ _ => setWidth32_lt v) ht
  | smod32Reg dst src =>
    obtain ⟨v, ht⟩ := alu32_next h
    exact .result dst _ rfl (.inl rfl) id rfl (by simp [isCallOrExit, opcodeOf, encode, opcode_word]) (fun _ _ => setWidth32_lt v) ht
  | smod64Imm dst imm =>
    obtain ⟨v, ht⟩ := alu64_next h
    exact .result dst v rfl (.inl rfl) id rfl (by simp [isCallOrExit, opcodeOf, encode, opcode_word]) (fun e => absurd e (by simp [classOf, encode, class_word])) ht
  | smod64Reg dst src =>
    obtain ⟨v, ht⟩ := alu64_next h
    exact .result dst v rfl (.inl rfl) id rfl (by simp [isCallOrExit, opcodeOf, encode, opcode_word]) (fun e => absurd e (by simp [classOf, encode, class_word])) ht
  | xor32Imm dst imm =>
    obtain ⟨v, ht⟩ := alu32_next h
    exact .result dst _ rfl (.inl rfl) id rfl (by simp [isCallOrExit, opcodeOf, encode, opcode_word]) (fun _ _ => setWidth32_lt v) ht
  | xor32Reg dst src =>
    obtain ⟨v, ht⟩ := alu32_next h
    exact .result dst _ rfl (.inl rfl) id rfl (by simp [isCallOrExit, opcodeOf, encode, opcode_word]) (fun _ _ => setWidth32_lt v) ht
  | xor64Imm dst imm =>
    obtain ⟨v, ht⟩ := alu64_next h
    exact .result dst v rfl (.inl rfl) id rfl (by simp [isCallOrExit, opcodeOf, encode, opcode_word]) (fun e => absurd e (by simp [classOf, encode, class_word])) ht
  | xor64Reg dst src =>
    obtain ⟨v, ht⟩ := alu64_next h
    exact .result dst v rfl (.inl rfl) id rfl (by simp [isCallOrExit, opcodeOf, encode, opcode_word]) (fun e => absurd e (by simp [classOf, encode, class_word])) ht
  | mov32Imm dst imm =>
    obtain ⟨v, ht⟩ := move32_next (d := dst) (o := .imm imm) (s := s) h
    exact .result dst _ rfl (.inl rfl) id rfl (by simp [isCallOrExit, opcodeOf, encode, opcode_word]) (fun _ _ => setWidth32_lt v) ht
  | mov32Reg dst src =>
    obtain ⟨v, ht⟩ := move32_next (d := dst) (o := .reg src) (s := s) h
    exact .result dst _ rfl (.inl rfl) id rfl (by simp [isCallOrExit, opcodeOf, encode, opcode_word]) (fun _ _ => setWidth32_lt v) ht
  | mov64Imm dst imm =>
    obtain ⟨v, ht⟩ := move64_next (d := dst) (o := .imm imm) (s := s) h
    exact .result dst v rfl (.inl rfl) id rfl (by simp [isCallOrExit, opcodeOf, encode, opcode_word]) (fun e => absurd e (by simp [classOf, encode, class_word])) ht
  | mov64Reg dst src =>
    obtain ⟨v, ht⟩ := move64_next (d := dst) (o := .reg src) (s := s) h
    exact .result dst v rfl (.inl rfl) id rfl (by simp [isCallOrExit, opcodeOf, encode, opcode_word]) (fun e => absurd e (by simp [classOf, encode, class_word])) ht
  | arsh32Imm dst imm =>
    obtain ⟨v, ht⟩ := alu32_next h
    exact .result dst _ rfl (.inl rfl) id rfl (by simp [isCallOrExit, opcodeOf, encode, opcode_word]) (fun _ _ => setWidth32_lt v) ht
  | arsh32Reg dst src =>
    obtain ⟨v, ht⟩ := alu32_next h
    exact .result dst _ rfl (.inl rfl) id rfl (by simp [isCallOrExit, opcodeOf, encode, opcode_word]) (fun _ _ => setWidth32_lt v) ht
  | arsh64Imm dst imm =>
    obtain ⟨v, ht⟩ := alu64_next h
    exact .result dst v rfl (.inl rfl) id rfl (by simp [isCallOrExit, opcodeOf, encode, opcode_word]) (fun e => absurd e (by simp [classOf, encode, class_word])) ht
  | arsh64Reg dst src =>
    obtain ⟨v, ht⟩ := alu64_next h
    exact .result dst v rfl (.inl rfl) id rfl (by simp [isCallOrExit, opcodeOf, encode, opcode_word]) (fun e => absurd e (by simp [classOf, encode, class_word])) ht
  | neg32 dst =>
    obtain ⟨v, _, h⟩ := readReg_next h
    cases h
    exact .result dst _ rfl (.inl rfl) id rfl (by simp [isCallOrExit, opcodeOf, encode, opcode_word]) (fun _ _ => setWidth32_lt _) rfl
  | neg64 dst =>
    obtain ⟨v, _, h⟩ := readReg_next h
    cases h
    exact .result dst _ rfl (.inl rfl) id rfl (by simp [isCallOrExit, opcodeOf, encode, opcode_word]) (fun e => absurd e (by simp [classOf, encode, class_word])) rfl
  | movsx32From8 dst src =>
    obtain ⟨v, _, h⟩ := readReg_next h
    cases h
    exact .result dst _ rfl (.inl rfl) id rfl (by simp [isCallOrExit, opcodeOf, encode, opcode_word]) (fun _ _ => setWidth32_lt _) rfl
  | movsx32From16 dst src =>
    obtain ⟨v, _, h⟩ := readReg_next h
    cases h
    exact .result dst _ rfl (.inl rfl) id rfl (by simp [isCallOrExit, opcodeOf, encode, opcode_word]) (fun _ _ => setWidth32_lt _) rfl
  | movsx64From8 dst src =>
    obtain ⟨v, ht⟩ := moveSx_next h
    exact .result dst v rfl (.inl rfl) id rfl (by simp [isCallOrExit, opcodeOf, encode, opcode_word]) (fun e => absurd e (by simp [classOf, encode, class_word])) ht
  | movsx64From16 dst src =>
    obtain ⟨v, ht⟩ := moveSx_next h
    exact .result dst v rfl (.inl rfl) id rfl (by simp [isCallOrExit, opcodeOf, encode, opcode_word]) (fun e => absurd e (by simp [classOf, encode, class_word])) ht
  | movsx64From32 dst src =>
    obtain ⟨v, ht⟩ := moveSx_next h
    exact .result dst v rfl (.inl rfl) id rfl (by simp [isCallOrExit, opcodeOf, encode, opcode_word]) (fun e => absurd e (by simp [classOf, encode, class_word])) ht
  | le16 dst =>
    obtain ⟨v, _, h⟩ := readReg_next h
    cases h
    exact .result dst _ rfl (.inl rfl) id rfl (by simp [isCallOrExit, opcodeOf, encode, opcode_word]) (fun _ _ => setWidth16_lt _) rfl
  | le32 dst =>
    obtain ⟨v, _, h⟩ := readReg_next h
    cases h
    exact .result dst _ rfl (.inl rfl) id rfl (by simp [isCallOrExit, opcodeOf, encode, opcode_word]) (fun _ _ => setWidth32_lt _) rfl
  | le64 dst =>
    obtain ⟨v, _, h⟩ := readReg_next h
    cases h
    exact .result dst _ rfl (.inl rfl) id rfl (by simp [isCallOrExit, opcodeOf, encode, opcode_word]) (fun _ e => absurd rfl e) rfl
  | be16 dst =>
    obtain ⟨v, _, h⟩ := readReg_next h
    cases h
    exact .result dst _ rfl (.inl rfl) id rfl (by simp [isCallOrExit, opcodeOf, encode, opcode_word]) (fun _ _ => setWidth16_lt _) rfl
  | be32 dst =>
    obtain ⟨v, _, h⟩ := readReg_next h
    cases h
    exact .result dst _ rfl (.inl rfl) id rfl (by simp [isCallOrExit, opcodeOf, encode, opcode_word]) (fun _ _ => setWidth32_lt _) rfl
  | be64 dst =>
    obtain ⟨v, _, h⟩ := readReg_next h
    cases h
    exact .result dst _ rfl (.inl rfl) id rfl (by simp [isCallOrExit, opcodeOf, encode, opcode_word]) (fun _ e => absurd rfl e) rfl
  | bswap16 dst =>
    obtain ⟨v, _, h⟩ := readReg_next h
    cases h
    exact .result dst _ rfl (.inl rfl) id rfl (by simp [isCallOrExit, opcodeOf, encode, opcode_word]) (fun e => absurd e (by simp [classOf, encode, class_word])) rfl
  | bswap32 dst =>
    obtain ⟨v, _, h⟩ := readReg_next h
    cases h
    exact .result dst _ rfl (.inl rfl) id rfl (by simp [isCallOrExit, opcodeOf, encode, opcode_word]) (fun e => absurd e (by simp [classOf, encode, class_word])) rfl
  | bswap64 dst =>
    obtain ⟨v, _, h⟩ := readReg_next h
    cases h
    exact .result dst _ rfl (.inl rfl) id rfl (by simp [isCallOrExit, opcodeOf, encode, opcode_word]) (fun e => absurd e (by simp [classOf, encode, class_word])) rfl
  | ja offset =>
    cases h
    exact .jump _ rfl rfl (by simp [isCallOrExit, opcodeOf, encode, opcode_word]) (.inl (by simp [classOf, encode, class_word])) rfl
  | ja32 imm =>
    cases h
    exact .jump _ rfl rfl (by simp [isCallOrExit, opcodeOf, encode, opcode_word]) (.inr (by simp [classOf, encode, class_word])) rfl
  | jeq64Imm dst imm offset =>
    obtain ⟨b, ht⟩ := jump64_next h
    exact .branch b offset rfl rfl (by simp [isCallOrExit, opcodeOf, encode, opcode_word]) (.inl (by simp [classOf, encode, class_word])) ht
  | jeq64Reg dst src offset =>
    obtain ⟨b, ht⟩ := jump64_next h
    exact .branch b offset rfl rfl (by simp [isCallOrExit, opcodeOf, encode, opcode_word]) (.inl (by simp [classOf, encode, class_word])) ht
  | jeq32Imm dst imm offset =>
    obtain ⟨b, ht⟩ := jump32_next h
    exact .branch b offset rfl rfl (by simp [isCallOrExit, opcodeOf, encode, opcode_word]) (.inr (by simp [classOf, encode, class_word])) ht
  | jeq32Reg dst src offset =>
    obtain ⟨b, ht⟩ := jump32_next h
    exact .branch b offset rfl rfl (by simp [isCallOrExit, opcodeOf, encode, opcode_word]) (.inr (by simp [classOf, encode, class_word])) ht
  | jgt64Imm dst imm offset =>
    obtain ⟨b, ht⟩ := jump64_next h
    exact .branch b offset rfl rfl (by simp [isCallOrExit, opcodeOf, encode, opcode_word]) (.inl (by simp [classOf, encode, class_word])) ht
  | jgt64Reg dst src offset =>
    obtain ⟨b, ht⟩ := jump64_next h
    exact .branch b offset rfl rfl (by simp [isCallOrExit, opcodeOf, encode, opcode_word]) (.inl (by simp [classOf, encode, class_word])) ht
  | jgt32Imm dst imm offset =>
    obtain ⟨b, ht⟩ := jump32_next h
    exact .branch b offset rfl rfl (by simp [isCallOrExit, opcodeOf, encode, opcode_word]) (.inr (by simp [classOf, encode, class_word])) ht
  | jgt32Reg dst src offset =>
    obtain ⟨b, ht⟩ := jump32_next h
    exact .branch b offset rfl rfl (by simp [isCallOrExit, opcodeOf, encode, opcode_word]) (.inr (by simp [classOf, encode, class_word])) ht
  | jge64Imm dst imm offset =>
    obtain ⟨b, ht⟩ := jump64_next h
    exact .branch b offset rfl rfl (by simp [isCallOrExit, opcodeOf, encode, opcode_word]) (.inl (by simp [classOf, encode, class_word])) ht
  | jge64Reg dst src offset =>
    obtain ⟨b, ht⟩ := jump64_next h
    exact .branch b offset rfl rfl (by simp [isCallOrExit, opcodeOf, encode, opcode_word]) (.inl (by simp [classOf, encode, class_word])) ht
  | jge32Imm dst imm offset =>
    obtain ⟨b, ht⟩ := jump32_next h
    exact .branch b offset rfl rfl (by simp [isCallOrExit, opcodeOf, encode, opcode_word]) (.inr (by simp [classOf, encode, class_word])) ht
  | jge32Reg dst src offset =>
    obtain ⟨b, ht⟩ := jump32_next h
    exact .branch b offset rfl rfl (by simp [isCallOrExit, opcodeOf, encode, opcode_word]) (.inr (by simp [classOf, encode, class_word])) ht
  | jset64Imm dst imm offset =>
    obtain ⟨b, ht⟩ := jump64_next h
    exact .branch b offset rfl rfl (by simp [isCallOrExit, opcodeOf, encode, opcode_word]) (.inl (by simp [classOf, encode, class_word])) ht
  | jset64Reg dst src offset =>
    obtain ⟨b, ht⟩ := jump64_next h
    exact .branch b offset rfl rfl (by simp [isCallOrExit, opcodeOf, encode, opcode_word]) (.inl (by simp [classOf, encode, class_word])) ht
  | jset32Imm dst imm offset =>
    obtain ⟨b, ht⟩ := jump32_next h
    exact .branch b offset rfl rfl (by simp [isCallOrExit, opcodeOf, encode, opcode_word]) (.inr (by simp [classOf, encode, class_word])) ht
  | jset32Reg dst src offset =>
    obtain ⟨b, ht⟩ := jump32_next h
    exact .branch b offset rfl rfl (by simp [isCallOrExit, opcodeOf, encode, opcode_word]) (.inr (by simp [classOf, encode, class_word])) ht
  | jne64Imm dst imm offset =>
    obtain ⟨b, ht⟩ := jump64_next h
    exact .branch b offset rfl rfl (by simp [isCallOrExit, opcodeOf, encode, opcode_word]) (.inl (by simp [classOf, encode, class_word])) ht
  | jne64Reg dst src offset =>
    obtain ⟨b, ht⟩ := jump64_next h
    exact .branch b offset rfl rfl (by simp [isCallOrExit, opcodeOf, encode, opcode_word]) (.inl (by simp [classOf, encode, class_word])) ht
  | jne32Imm dst imm offset =>
    obtain ⟨b, ht⟩ := jump32_next h
    exact .branch b offset rfl rfl (by simp [isCallOrExit, opcodeOf, encode, opcode_word]) (.inr (by simp [classOf, encode, class_word])) ht
  | jne32Reg dst src offset =>
    obtain ⟨b, ht⟩ := jump32_next h
    exact .branch b offset rfl rfl (by simp [isCallOrExit, opcodeOf, encode, opcode_word]) (.inr (by simp [classOf, encode, class_word])) ht
  | jsgt64Imm dst imm offset =>
    obtain ⟨b, ht⟩ := jump64_next h
    exact .branch b offset rfl rfl (by simp [isCallOrExit, opcodeOf, encode, opcode_word]) (.inl (by simp [classOf, encode, class_word])) ht
  | jsgt64Reg dst src offset =>
    obtain ⟨b, ht⟩ := jump64_next h
    exact .branch b offset rfl rfl (by simp [isCallOrExit, opcodeOf, encode, opcode_word]) (.inl (by simp [classOf, encode, class_word])) ht
  | jsgt32Imm dst imm offset =>
    obtain ⟨b, ht⟩ := jump32_next h
    exact .branch b offset rfl rfl (by simp [isCallOrExit, opcodeOf, encode, opcode_word]) (.inr (by simp [classOf, encode, class_word])) ht
  | jsgt32Reg dst src offset =>
    obtain ⟨b, ht⟩ := jump32_next h
    exact .branch b offset rfl rfl (by simp [isCallOrExit, opcodeOf, encode, opcode_word]) (.inr (by simp [classOf, encode, class_word])) ht
  | jsge64Imm dst imm offset =>
    obtain ⟨b, ht⟩ := jump64_next h
    exact .branch b offset rfl rfl (by simp [isCallOrExit, opcodeOf, encode, opcode_word]) (.inl (by simp [classOf, encode, class_word])) ht
  | jsge64Reg dst src offset =>
    obtain ⟨b, ht⟩ := jump64_next h
    exact .branch b offset rfl rfl (by simp [isCallOrExit, opcodeOf, encode, opcode_word]) (.inl (by simp [classOf, encode, class_word])) ht
  | jsge32Imm dst imm offset =>
    obtain ⟨b, ht⟩ := jump32_next h
    exact .branch b offset rfl rfl (by simp [isCallOrExit, opcodeOf, encode, opcode_word]) (.inr (by simp [classOf, encode, class_word])) ht
  | jsge32Reg dst src offset =>
    obtain ⟨b, ht⟩ := jump32_next h
    exact .branch b offset rfl rfl (by simp [isCallOrExit, opcodeOf, encode, opcode_word]) (.inr (by simp [classOf, encode, class_word])) ht
  | jlt64Imm dst imm offset =>
    obtain ⟨b, ht⟩ := jump64_next h
    exact .branch b offset rfl rfl (by simp [isCallOrExit, opcodeOf, encode, opcode_word]) (.inl (by simp [classOf, encode, class_word])) ht
  | jlt64Reg dst src offset =>
    obtain ⟨b, ht⟩ := jump64_next h
    exact .branch b offset rfl rfl (by simp [isCallOrExit, opcodeOf, encode, opcode_word]) (.inl (by simp [classOf, encode, class_word])) ht
  | jlt32Imm dst imm offset =>
    obtain ⟨b, ht⟩ := jump32_next h
    exact .branch b offset rfl rfl (by simp [isCallOrExit, opcodeOf, encode, opcode_word]) (.inr (by simp [classOf, encode, class_word])) ht
  | jlt32Reg dst src offset =>
    obtain ⟨b, ht⟩ := jump32_next h
    exact .branch b offset rfl rfl (by simp [isCallOrExit, opcodeOf, encode, opcode_word]) (.inr (by simp [classOf, encode, class_word])) ht
  | jle64Imm dst imm offset =>
    obtain ⟨b, ht⟩ := jump64_next h
    exact .branch b offset rfl rfl (by simp [isCallOrExit, opcodeOf, encode, opcode_word]) (.inl (by simp [classOf, encode, class_word])) ht
  | jle64Reg dst src offset =>
    obtain ⟨b, ht⟩ := jump64_next h
    exact .branch b offset rfl rfl (by simp [isCallOrExit, opcodeOf, encode, opcode_word]) (.inl (by simp [classOf, encode, class_word])) ht
  | jle32Imm dst imm offset =>
    obtain ⟨b, ht⟩ := jump32_next h
    exact .branch b offset rfl rfl (by simp [isCallOrExit, opcodeOf, encode, opcode_word]) (.inr (by simp [classOf, encode, class_word])) ht
  | jle32Reg dst src offset =>
    obtain ⟨b, ht⟩ := jump32_next h
    exact .branch b offset rfl rfl (by simp [isCallOrExit, opcodeOf, encode, opcode_word]) (.inr (by simp [classOf, encode, class_word])) ht
  | jslt64Imm dst imm offset =>
    obtain ⟨b, ht⟩ := jump64_next h
    exact .branch b offset rfl rfl (by simp [isCallOrExit, opcodeOf, encode, opcode_word]) (.inl (by simp [classOf, encode, class_word])) ht
  | jslt64Reg dst src offset =>
    obtain ⟨b, ht⟩ := jump64_next h
    exact .branch b offset rfl rfl (by simp [isCallOrExit, opcodeOf, encode, opcode_word]) (.inl (by simp [classOf, encode, class_word])) ht
  | jslt32Imm dst imm offset =>
    obtain ⟨b, ht⟩ := jump32_next h
    exact .branch b offset rfl rfl (by simp [isCallOrExit, opcodeOf, encode, opcode_word]) (.inr (by simp [classOf, encode, class_word])) ht
  | jslt32Reg dst src offset =>
    obtain ⟨b, ht⟩ := jump32_next h
    exact .branch b offset rfl rfl (by simp [isCallOrExit, opcodeOf, encode, opcode_word]) (.inr (by simp [classOf, encode, class_word])) ht
  | jsle64Imm dst imm offset =>
    obtain ⟨b, ht⟩ := jump64_next h
    exact .branch b offset rfl rfl (by simp [isCallOrExit, opcodeOf, encode, opcode_word]) (.inl (by simp [classOf, encode, class_word])) ht
  | jsle64Reg dst src offset =>
    obtain ⟨b, ht⟩ := jump64_next h
    exact .branch b offset rfl rfl (by simp [isCallOrExit, opcodeOf, encode, opcode_word]) (.inl (by simp [classOf, encode, class_word])) ht
  | jsle32Imm dst imm offset =>
    obtain ⟨b, ht⟩ := jump32_next h
    exact .branch b offset rfl rfl (by simp [isCallOrExit, opcodeOf, encode, opcode_word]) (.inr (by simp [classOf, encode, class_word])) ht
  | jsle32Reg dst src offset =>
    obtain ⟨b, ht⟩ := jump32_next h
    exact .branch b offset rfl rfl (by simp [isCallOrExit, opcodeOf, encode, opcode_word]) (.inr (by simp [classOf, encode, class_word])) ht
  | callHelper imm =>
    obtain ⟨v, ws, _, ht⟩ := callPlatform_next h
    exact .helper v ws rfl rfl (by simp [isCallOrExit, opcodeOf, encode, opcode_word]) (by simp [classOf, encode, class_word]) ht
  | callLocal imm =>
    obtain ⟨hd, ht⟩ := callFrame_next h
    exact .call imm rfl hd (by simp [isCallOrExit, opcodeOf, encode, opcode_word]) (by simp [classOf, encode, class_word]) ht
  | callBtf offset imm =>
    obtain ⟨v, ws, _, ht⟩ := callPlatform_next h
    exact .helper v ws rfl rfl (by simp [isCallOrExit, opcodeOf, encode, opcode_word]) (by simp [classOf, encode, class_word]) ht
  | exit =>
    obtain ⟨v, hv, ⟨he, ht⟩ | ⟨f, rest, he, ht⟩⟩ := exitFrame_next h
    · exact .finish v rfl hv he (by simp [isCallOrExit, opcodeOf, encode, opcode_word]) (by simp [classOf, encode, class_word]) ht
    · exact .leave f rest rfl he (by simp [isCallOrExit, opcodeOf, encode, opcode_word]) (by simp [classOf, encode, class_word]) ht
  | ldxw dst src offset =>
    obtain ⟨v, ht⟩ := loadForm_next h
    exact .result dst v rfl (.inr ⟨_, _, _, rfl⟩) id rfl (by simp [isCallOrExit, opcodeOf, encode, opcode_word]) (fun e => absurd e (by simp [classOf, encode, class_word])) ht
  | ldxh dst src offset =>
    obtain ⟨v, ht⟩ := loadForm_next h
    exact .result dst v rfl (.inr ⟨_, _, _, rfl⟩) id rfl (by simp [isCallOrExit, opcodeOf, encode, opcode_word]) (fun e => absurd e (by simp [classOf, encode, class_word])) ht
  | ldxb dst src offset =>
    obtain ⟨v, ht⟩ := loadForm_next h
    exact .result dst v rfl (.inr ⟨_, _, _, rfl⟩) id rfl (by simp [isCallOrExit, opcodeOf, encode, opcode_word]) (fun e => absurd e (by simp [classOf, encode, class_word])) ht
  | ldxdw dst src offset =>
    obtain ⟨v, ht⟩ := loadForm_next h
    exact .result dst v rfl (.inr ⟨_, _, _, rfl⟩) id rfl (by simp [isCallOrExit, opcodeOf, encode, opcode_word]) (fun e => absurd e (by simp [classOf, encode, class_word])) ht
  | ldxsw dst src offset =>
    obtain ⟨v, ht⟩ := loadForm_next h
    exact .result dst v rfl (.inr ⟨_, _, _, rfl⟩) id rfl (by simp [isCallOrExit, opcodeOf, encode, opcode_word]) (fun e => absurd e (by simp [classOf, encode, class_word])) ht
  | ldxsh dst src offset =>
    obtain ⟨v, ht⟩ := loadForm_next h
    exact .result dst v rfl (.inr ⟨_, _, _, rfl⟩) id rfl (by simp [isCallOrExit, opcodeOf, encode, opcode_word]) (fun e => absurd e (by simp [classOf, encode, class_word])) ht
  | ldxsb dst src offset =>
    obtain ⟨v, ht⟩ := loadForm_next h
    exact .result dst v rfl (.inr ⟨_, _, _, rfl⟩) id rfl (by simp [isCallOrExit, opcodeOf, encode, opcode_word]) (fun e => absurd e (by simp [classOf, encode, class_word])) ht
  | stw dst offset imm =>
    obtain ⟨b, hb, hn, ht⟩ := storeImm_next h
    exact .store dst offset _ .write b _ rfl rfl (by decide) hb hn rfl (by simp [isCallOrExit, opcodeOf, encode, opcode_word]) (.inl (by simp [classOf, encode, class_word])) ht
  | sth dst offset imm =>
    obtain ⟨b, hb, hn, ht⟩ := storeImm_next h
    exact .store dst offset _ .write b _ rfl rfl (by decide) hb hn rfl (by simp [isCallOrExit, opcodeOf, encode, opcode_word]) (.inl (by simp [classOf, encode, class_word])) ht
  | stb dst offset imm =>
    obtain ⟨b, hb, hn, ht⟩ := storeImm_next h
    exact .store dst offset _ .write b _ rfl rfl (by decide) hb hn rfl (by simp [isCallOrExit, opcodeOf, encode, opcode_word]) (.inl (by simp [classOf, encode, class_word])) ht
  | stdw dst offset imm =>
    obtain ⟨b, hb, hn, ht⟩ := storeImm_next h
    exact .store dst offset _ .write b _ rfl rfl (by decide) hb hn rfl (by simp [isCallOrExit, opcodeOf, encode, opcode_word]) (.inl (by simp [classOf, encode, class_word])) ht
  | stxw dst src offset =>
    obtain ⟨b, v, hb, _, hn, ht⟩ := storeReg_next h
    exact .store dst offset _ .write b v rfl rfl (by decide) hb hn rfl (by simp [isCallOrExit, opcodeOf, encode, opcode_word]) (.inr (by simp [classOf, encode, class_word])) ht
  | stxh dst src offset =>
    obtain ⟨b, v, hb, _, hn, ht⟩ := storeReg_next h
    exact .store dst offset _ .write b v rfl rfl (by decide) hb hn rfl (by simp [isCallOrExit, opcodeOf, encode, opcode_word]) (.inr (by simp [classOf, encode, class_word])) ht
  | stxb dst src offset =>
    obtain ⟨b, v, hb, _, hn, ht⟩ := storeReg_next h
    exact .store dst offset _ .write b v rfl rfl (by decide) hb hn rfl (by simp [isCallOrExit, opcodeOf, encode, opcode_word]) (.inr (by simp [classOf, encode, class_word])) ht
  | stxdw dst src offset =>
    obtain ⟨b, v, hb, _, hn, ht⟩ := storeReg_next h
    exact .store dst offset _ .write b v rfl rfl (by decide) hb hn rfl (by simp [isCallOrExit, opcodeOf, encode, opcode_word]) (.inr (by simp [classOf, encode, class_word])) ht
  | atomicAdd32 dst src offset =>
    obtain ⟨b, v, hb, hn, ht⟩ := atomicPlain_next h
    exact .store dst offset _ .atomic b v rfl rfl (by decide) hb hn rfl (by simp [isCallOrExit, opcodeOf, encode, opcode_word]) (.inr (by simp [classOf, encode, class_word])) ht
  | atomicFetchAdd32 dst src offset =>
    obtain ⟨b, v, hb, hn, ht⟩ := atomicFetch_next h
    exact .fetch dst offset _ b v src _ rfl rfl hb hn id rfl (by simp [isCallOrExit, opcodeOf, encode, opcode_word]) (by simp [classOf, encode, class_word]) ht
  | atomicOr32 dst src offset =>
    obtain ⟨b, v, hb, hn, ht⟩ := atomicPlain_next h
    exact .store dst offset _ .atomic b v rfl rfl (by decide) hb hn rfl (by simp [isCallOrExit, opcodeOf, encode, opcode_word]) (.inr (by simp [classOf, encode, class_word])) ht
  | atomicFetchOr32 dst src offset =>
    obtain ⟨b, v, hb, hn, ht⟩ := atomicFetch_next h
    exact .fetch dst offset _ b v src _ rfl rfl hb hn id rfl (by simp [isCallOrExit, opcodeOf, encode, opcode_word]) (by simp [classOf, encode, class_word]) ht
  | atomicAnd32 dst src offset =>
    obtain ⟨b, v, hb, hn, ht⟩ := atomicPlain_next h
    exact .store dst offset _ .atomic b v rfl rfl (by decide) hb hn rfl (by simp [isCallOrExit, opcodeOf, encode, opcode_word]) (.inr (by simp [classOf, encode, class_word])) ht
  | atomicFetchAnd32 dst src offset =>
    obtain ⟨b, v, hb, hn, ht⟩ := atomicFetch_next h
    exact .fetch dst offset _ b v src _ rfl rfl hb hn id rfl (by simp [isCallOrExit, opcodeOf, encode, opcode_word]) (by simp [classOf, encode, class_word]) ht
  | atomicXor32 dst src offset =>
    obtain ⟨b, v, hb, hn, ht⟩ := atomicPlain_next h
    exact .store dst offset _ .atomic b v rfl rfl (by decide) hb hn rfl (by simp [isCallOrExit, opcodeOf, encode, opcode_word]) (.inr (by simp [classOf, encode, class_word])) ht
  | atomicFetchXor32 dst src offset =>
    obtain ⟨b, v, hb, hn, ht⟩ := atomicFetch_next h
    exact .fetch dst offset _ b v src _ rfl rfl hb hn id rfl (by simp [isCallOrExit, opcodeOf, encode, opcode_word]) (by simp [classOf, encode, class_word]) ht
  | atomicAdd64 dst src offset =>
    obtain ⟨b, v, hb, hn, ht⟩ := atomicPlain_next h
    exact .store dst offset _ .atomic b v rfl rfl (by decide) hb hn rfl (by simp [isCallOrExit, opcodeOf, encode, opcode_word]) (.inr (by simp [classOf, encode, class_word])) ht
  | atomicFetchAdd64 dst src offset =>
    obtain ⟨b, v, hb, hn, ht⟩ := atomicFetch_next h
    exact .fetch dst offset _ b v src _ rfl rfl hb hn id rfl (by simp [isCallOrExit, opcodeOf, encode, opcode_word]) (by simp [classOf, encode, class_word]) ht
  | atomicOr64 dst src offset =>
    obtain ⟨b, v, hb, hn, ht⟩ := atomicPlain_next h
    exact .store dst offset _ .atomic b v rfl rfl (by decide) hb hn rfl (by simp [isCallOrExit, opcodeOf, encode, opcode_word]) (.inr (by simp [classOf, encode, class_word])) ht
  | atomicFetchOr64 dst src offset =>
    obtain ⟨b, v, hb, hn, ht⟩ := atomicFetch_next h
    exact .fetch dst offset _ b v src _ rfl rfl hb hn id rfl (by simp [isCallOrExit, opcodeOf, encode, opcode_word]) (by simp [classOf, encode, class_word]) ht
  | atomicAnd64 dst src offset =>
    obtain ⟨b, v, hb, hn, ht⟩ := atomicPlain_next h
    exact .store dst offset _ .atomic b v rfl rfl (by decide) hb hn rfl (by simp [isCallOrExit, opcodeOf, encode, opcode_word]) (.inr (by simp [classOf, encode, class_word])) ht
  | atomicFetchAnd64 dst src offset =>
    obtain ⟨b, v, hb, hn, ht⟩ := atomicFetch_next h
    exact .fetch dst offset _ b v src _ rfl rfl hb hn id rfl (by simp [isCallOrExit, opcodeOf, encode, opcode_word]) (by simp [classOf, encode, class_word]) ht
  | atomicXor64 dst src offset =>
    obtain ⟨b, v, hb, hn, ht⟩ := atomicPlain_next h
    exact .store dst offset _ .atomic b v rfl rfl (by decide) hb hn rfl (by simp [isCallOrExit, opcodeOf, encode, opcode_word]) (.inr (by simp [classOf, encode, class_word])) ht
  | atomicFetchXor64 dst src offset =>
    obtain ⟨b, v, hb, hn, ht⟩ := atomicFetch_next h
    exact .fetch dst offset _ b v src _ rfl rfl hb hn id rfl (by simp [isCallOrExit, opcodeOf, encode, opcode_word]) (by simp [classOf, encode, class_word]) ht
  | atomicXchg32 dst src offset =>
    obtain ⟨b, v, hb, hn, ht⟩ := atomicFetch_next h
    exact .fetch dst offset _ b v src _ rfl rfl hb hn id rfl (by simp [isCallOrExit, opcodeOf, encode, opcode_word]) (by simp [classOf, encode, class_word]) ht
  | atomicXchg64 dst src offset =>
    obtain ⟨b, v, hb, hn, ht⟩ := atomicFetch_next h
    exact .fetch dst offset _ b v src _ rfl rfl hb hn id rfl (by simp [isCallOrExit, opcodeOf, encode, opcode_word]) (by simp [classOf, encode, class_word]) ht
  | atomicCmpxchg32 dst src offset =>
    obtain ⟨b, v, hb, hn, ht⟩ := atomicCompare_next h
    exact .fetch dst offset _ b v .r0 _ rfl rfl hb hn (fun _ => rfl) rfl (by simp [isCallOrExit, opcodeOf, encode, opcode_word]) (by simp [classOf, encode, class_word]) ht
  | atomicCmpxchg64 dst src offset =>
    obtain ⟨b, v, hb, hn, ht⟩ := atomicCompare_next h
    exact .fetch dst offset _ b v .r0 _ rfl rfl hb hn (fun _ => rfl) rfl (by simp [isCallOrExit, opcodeOf, encode, opcode_word]) (by simp [classOf, encode, class_word]) ht
  | lddw dst imm nextImm =>
    cases h
    exact .resultWide dst _ rfl rfl id rfl (by simp [isCallOrExit, opcodeOf, encode, opcode_word]) (by simp [classOf, encode, class_word]) rfl
  | ldMapFd dst imm =>
    obtain ⟨_, _, ht⟩ := platformForm_next h
    exact .resultWide dst _ rfl rfl id rfl (by simp [isCallOrExit, opcodeOf, encode, opcode_word]) (by simp [classOf, encode, class_word]) ht
  | ldMapFdVal dst imm nextImm =>
    obtain ⟨_, _, _, _, ht⟩ := mapValueForm_next h
    exact .resultWide dst _ rfl rfl id rfl (by simp [isCallOrExit, opcodeOf, encode, opcode_word]) (by simp [classOf, encode, class_word]) ht
  | ldVarAddr dst imm =>
    obtain ⟨_, _, ht⟩ := platformForm_next h
    exact .resultWide dst _ rfl rfl id rfl (by simp [isCallOrExit, opcodeOf, encode, opcode_word]) (by simp [classOf, encode, class_word]) ht
  | ldCodeAddr dst imm =>
    obtain ⟨_, _, ht⟩ := platformForm_next h
    exact .resultWide dst _ rfl rfl id rfl (by simp [isCallOrExit, opcodeOf, encode, opcode_word]) (by simp [classOf, encode, class_word]) ht
  | ldMapIdx dst imm =>
    obtain ⟨_, _, ht⟩ := platformForm_next h
    exact .resultWide dst _ rfl rfl id rfl (by simp [isCallOrExit, opcodeOf, encode, opcode_word]) (by simp [classOf, encode, class_word]) ht
  | ldMapIdxVal dst imm nextImm =>
    obtain ⟨_, _, _, _, ht⟩ := mapValueForm_next h
    exact .resultWide dst _ rfl rfl id rfl (by simp [isCallOrExit, opcodeOf, encode, opcode_word]) (by simp [classOf, encode, class_word]) ht
  | ldabsw imm =>
    cases h
  | ldabsh imm =>
    cases h
  | ldabsb imm =>
    cases h
  | ldindw src imm =>
    cases h
  | ldindh src imm =>
    cases h
  | ldindb src imm =>
    cases h

/-- If a step answers a next state, the run is going on and the instruction at `pc` has done what one of the shapes says on
the state after the other agents' turn. -/
theorem step_shape {s t : State} (h : step s = .next t) :
    s.status = .running ∧ ∃ i, s.decodesTo i ∧ Shape i s.envTurn t :=
  let ⟨hr, i, ht, hd, he⟩ := step_next h
  ⟨hr, i, ⟨ht, hd⟩, exec_shape he⟩

/-- After a step that is refused, a run has no state of which a claim could speak (R411). -/
theorem observeRun_refused {s : State} {r : Refusal} (hs : s.status = .running) (h : step s = .refused r) (n : Nat) :
    observeRun (n + 1) s = none := by
  simp [observeRun, hs, observe, h]

end Sys2Proof.Machine
end

