-- ==== Sys2Proof/Tests/Slice0.lean ====
section
/-! SUPPORT. Tests/Slice0.lean: the model's own tests. Every expected result is the spec's (30_encoding.md,
95_test_vectors.md, or the rule named), none is the model's answer. At the end, for every statement of Obligations.lean
that has hypotheses, a witness: a concrete state and operands that meet them. -/

-- In one thread: so many small proofs at once can exhaust the threads that a checker allows.
set_option Elab.async false

namespace Sys2Proof.Tests

open Sys2Proof.Machine

/-! ## WellFormed: for each check an ill-formed term, which it refuses (R28, R119) -/

theorem test_refuses_arithmetic_into_r10 :
    (Instr.add64Imm .r10 1).wellFormed = false ∧ (Instr.mov32Reg .r10 .r1).wellFormed = false ∧
    (Instr.neg64 .r10).wellFormed = false ∧ (Instr.movsx64From8 .r10 .r1).wellFormed = false ∧
    (Instr.mov64Reg .r1 .r10).wellFormed = true := by decide

theorem test_refuses_swap_of_r10 :
    (Instr.le16 .r10).wellFormed = false ∧ (Instr.bswap64 .r10).wellFormed = false := by decide

theorem test_refuses_load_into_r10 :
    (Instr.ldxdw .r10 .r1 0).wellFormed = false ∧ (Instr.ldxdw .r1 .r10 0).wellFormed = true ∧
    (Instr.stxdw .r10 .r10 0).wellFormed = true := by decide

theorem test_refuses_fetch_into_r10 :
    (Instr.atomicFetchAdd64 .r1 .r10 0).wellFormed = false ∧ (Instr.atomicXchg32 .r1 .r10 0).wellFormed = false ∧
    (Instr.atomicAdd64 .r10 .r10 0).wellFormed = true ∧
    (Instr.atomicCmpxchg64 .r10 .r10 0).wellFormed = true := by decide

theorem test_refuses_wide_immediate_into_r10 :
    (Instr.lddw .r10 0 0).wellFormed = false ∧ (Instr.ldMapFd .r10 0).wellFormed = false := by decide

/-! ## Helpers -/

/-- The instruction at the front of some bytes, on a host. -/
def readBytes (e : Endian) (bs : List Byte) : Option Instr :=
  match decodeBytes e bs with
  | .ok (i, _) => some i
  | .error _ => none

/-- Why a word is no instruction. -/
def whyNot (w : BitVec 64) (second : Option (BitVec 64)) : Option Illegal :=
  match decodeWords w second with
  | .ok _ => none
  | .error why => some why

/-! ## Decoding: one word for each row, written out from 30_encoding.md (dst 1, src 2, offset 0x8003, imm 0x80c00007 and next_imm
0x9ab00001 where the row leaves them free) -/

theorem test_decode_add :
    decodeTableWord 64 0x80c0000700000104 = some (.add32Imm .r1 0x80c00007) ∧
    decodeTableWord 64 0x000000000000210c = some (.add32Reg .r1 .r2) ∧
    decodeTableWord 64 0x80c0000700000107 = some (.add64Imm .r1 0x80c00007) ∧
    decodeTableWord 64 0x000000000000210f = some (.add64Reg .r1 .r2) := by decide

theorem test_decode_sub :
    decodeTableWord 64 0x80c0000700000114 = some (.sub32Imm .r1 0x80c00007) ∧
    decodeTableWord 64 0x000000000000211c = some (.sub32Reg .r1 .r2) ∧
    decodeTableWord 64 0x80c0000700000117 = some (.sub64Imm .r1 0x80c00007) ∧
    decodeTableWord 64 0x000000000000211f = some (.sub64Reg .r1 .r2) := by decide

theorem test_decode_mul :
    decodeTableWord 64 0x80c0000700000124 = some (.mul32Imm .r1 0x80c00007) ∧
    decodeTableWord 64 0x000000000000212c = some (.mul32Reg .r1 .r2) ∧
    decodeTableWord 64 0x80c0000700000127 = some (.mul64Imm .r1 0x80c00007) ∧
    decodeTableWord 64 0x000000000000212f = some (.mul64Reg .r1 .r2) := by decide

theorem test_decode_div :
    decodeTableWord 64 0x80c0000700000134 = some (.div32Imm .r1 0x80c00007) ∧
    decodeTableWord 64 0x000000000000213c = some (.div32Reg .r1 .r2) ∧
    decodeTableWord 64 0x80c0000700000137 = some (.div64Imm .r1 0x80c00007) ∧
    decodeTableWord 64 0x000000000000213f = some (.div64Reg .r1 .r2) := by decide

theorem test_decode_sdiv :
    decodeTableWord 64 0x80c0000700010134 = some (.sdiv32Imm .r1 0x80c00007) ∧
    decodeTableWord 64 0x000000000001213c = some (.sdiv32Reg .r1 .r2) ∧
    decodeTableWord 64 0x80c0000700010137 = some (.sdiv64Imm .r1 0x80c00007) ∧
    decodeTableWord 64 0x000000000001213f = some (.sdiv64Reg .r1 .r2) := by decide

theorem test_decode_or :
    decodeTableWord 64 0x80c0000700000144 = some (.or32Imm .r1 0x80c00007) ∧
    decodeTableWord 64 0x000000000000214c = some (.or32Reg .r1 .r2) ∧
    decodeTableWord 64 0x80c0000700000147 = some (.or64Imm .r1 0x80c00007) ∧
    decodeTableWord 64 0x000000000000214f = some (.or64Reg .r1 .r2) := by decide

theorem test_decode_and :
    decodeTableWord 64 0x80c0000700000154 = some (.and32Imm .r1 0x80c00007) ∧
    decodeTableWord 64 0x000000000000215c = some (.and32Reg .r1 .r2) ∧
    decodeTableWord 64 0x80c0000700000157 = some (.and64Imm .r1 0x80c00007) ∧
    decodeTableWord 64 0x000000000000215f = some (.and64Reg .r1 .r2) := by decide

theorem test_decode_lsh :
    decodeTableWord 64 0x80c0000700000164 = some (.lsh32Imm .r1 0x80c00007) ∧
    decodeTableWord 64 0x000000000000216c = some (.lsh32Reg .r1 .r2) ∧
    decodeTableWord 64 0x80c0000700000167 = some (.lsh64Imm .r1 0x80c00007) ∧
    decodeTableWord 64 0x000000000000216f = some (.lsh64Reg .r1 .r2) := by decide

theorem test_decode_rsh :
    decodeTableWord 64 0x80c0000700000174 = some (.rsh32Imm .r1 0x80c00007) ∧
    decodeTableWord 64 0x000000000000217c = some (.rsh32Reg .r1 .r2) ∧
    decodeTableWord 64 0x80c0000700000177 = some (.rsh64Imm .r1 0x80c00007) ∧
    decodeTableWord 64 0x000000000000217f = some (.rsh64Reg .r1 .r2) := by decide

theorem test_decode_mod :
    decodeTableWord 64 0x80c0000700000194 = some (.mod32Imm .r1 0x80c00007) ∧
    decodeTableWord 64 0x000000000000219c = some (.mod32Reg .r1 .r2) ∧
    decodeTableWord 64 0x80c0000700000197 = some (.mod64Imm .r1 0x80c00007) ∧
    decodeTableWord 64 0x000000000000219f = some (.mod64Reg .r1 .r2) := by decide

theorem test_decode_smod :
    decodeTableWord 64 0x80c0000700010194 = some (.smod32Imm .r1 0x80c00007) ∧
    decodeTableWord 64 0x000000000001219c = some (.smod32Reg .r1 .r2) ∧
    decodeTableWord 64 0x80c0000700010197 = some (.smod64Imm .r1 0x80c00007) ∧
    decodeTableWord 64 0x000000000001219f = some (.smod64Reg .r1 .r2) := by decide

theorem test_decode_xor :
    decodeTableWord 64 0x80c00007000001a4 = some (.xor32Imm .r1 0x80c00007) ∧
    decodeTableWord 64 0x00000000000021ac = some (.xor32Reg .r1 .r2) ∧
    decodeTableWord 64 0x80c00007000001a7 = some (.xor64Imm .r1 0x80c00007) ∧
    decodeTableWord 64 0x00000000000021af = some (.xor64Reg .r1 .r2) := by decide

theorem test_decode_mov :
    decodeTableWord 64 0x80c00007000001b4 = some (.mov32Imm .r1 0x80c00007) ∧
    decodeTableWord 64 0x00000000000021bc = some (.mov32Reg .r1 .r2) ∧
    decodeTableWord 64 0x80c00007000001b7 = some (.mov64Imm .r1 0x80c00007) ∧
    decodeTableWord 64 0x00000000000021bf = some (.mov64Reg .r1 .r2) := by decide

theorem test_decode_arsh :
    decodeTableWord 64 0x80c00007000001c4 = some (.arsh32Imm .r1 0x80c00007) ∧
    decodeTableWord 64 0x00000000000021cc = some (.arsh32Reg .r1 .r2) ∧
    decodeTableWord 64 0x80c00007000001c7 = some (.arsh64Imm .r1 0x80c00007) ∧
    decodeTableWord 64 0x00000000000021cf = some (.arsh64Reg .r1 .r2) := by decide

theorem test_decode_neg :
    decodeTableWord 64 0x0000000000000184 = some (.neg32 .r1) ∧
    decodeTableWord 64 0x0000000000000187 = some (.neg64 .r1) := by decide

theorem test_decode_movsx :
    decodeTableWord 64 0x00000000000821bc = some (.movsx32From8 .r1 .r2) ∧
    decodeTableWord 64 0x00000000001021bc = some (.movsx32From16 .r1 .r2) ∧
    decodeTableWord 64 0x00000000000821bf = some (.movsx64From8 .r1 .r2) ∧
    decodeTableWord 64 0x00000000001021bf = some (.movsx64From16 .r1 .r2) ∧
    decodeTableWord 64 0x00000000002021bf = some (.movsx64From32 .r1 .r2) := by decide

theorem test_decode_byte_swaps :
    decodeTableWord 64 0x00000010000001d4 = some (.le16 .r1) ∧
    decodeTableWord 64 0x00000020000001d4 = some (.le32 .r1) ∧
    decodeTableWord 64 0x00000040000001d4 = some (.le64 .r1) ∧
    decodeTableWord 64 0x00000010000001dc = some (.be16 .r1) ∧
    decodeTableWord 64 0x00000020000001dc = some (.be32 .r1) ∧
    decodeTableWord 64 0x00000040000001dc = some (.be64 .r1) ∧
    decodeTableWord 64 0x00000010000001d7 = some (.bswap16 .r1) ∧
    decodeTableWord 64 0x00000020000001d7 = some (.bswap32 .r1) ∧
    decodeTableWord 64 0x00000040000001d7 = some (.bswap64 .r1) := by decide

theorem test_decode_goto :
    decodeTableWord 64 0x0000000080030005 = some (.ja 0x8003) ∧
    decodeTableWord 64 0x80c0000700000006 = some (.ja32 0x80c00007) := by decide

theorem test_decode_jeq :
    decodeTableWord 64 0x80c0000780030115 = some (.jeq64Imm .r1 0x80c00007 0x8003) ∧
    decodeTableWord 64 0x000000008003211d = some (.jeq64Reg .r1 .r2 0x8003) ∧
    decodeTableWord 64 0x80c0000780030116 = some (.jeq32Imm .r1 0x80c00007 0x8003) ∧
    decodeTableWord 64 0x000000008003211e = some (.jeq32Reg .r1 .r2 0x8003) := by decide

theorem test_decode_jgt :
    decodeTableWord 64 0x80c0000780030125 = some (.jgt64Imm .r1 0x80c00007 0x8003) ∧
    decodeTableWord 64 0x000000008003212d = some (.jgt64Reg .r1 .r2 0x8003) ∧
    decodeTableWord 64 0x80c0000780030126 = some (.jgt32Imm .r1 0x80c00007 0x8003) ∧
    decodeTableWord 64 0x000000008003212e = some (.jgt32Reg .r1 .r2 0x8003) := by decide

theorem test_decode_jge :
    decodeTableWord 64 0x80c0000780030135 = some (.jge64Imm .r1 0x80c00007 0x8003) ∧
    decodeTableWord 64 0x000000008003213d = some (.jge64Reg .r1 .r2 0x8003) ∧
    decodeTableWord 64 0x80c0000780030136 = some (.jge32Imm .r1 0x80c00007 0x8003) ∧
    decodeTableWord 64 0x000000008003213e = some (.jge32Reg .r1 .r2 0x8003) := by decide

theorem test_decode_jset :
    decodeTableWord 64 0x80c0000780030145 = some (.jset64Imm .r1 0x80c00007 0x8003) ∧
    decodeTableWord 64 0x000000008003214d = some (.jset64Reg .r1 .r2 0x8003) ∧
    decodeTableWord 64 0x80c0000780030146 = some (.jset32Imm .r1 0x80c00007 0x8003) ∧
    decodeTableWord 64 0x000000008003214e = some (.jset32Reg .r1 .r2 0x8003) := by decide

theorem test_decode_jne :
    decodeTableWord 64 0x80c0000780030155 = some (.jne64Imm .r1 0x80c00007 0x8003) ∧
    decodeTableWord 64 0x000000008003215d = some (.jne64Reg .r1 .r2 0x8003) ∧
    decodeTableWord 64 0x80c0000780030156 = some (.jne32Imm .r1 0x80c00007 0x8003) ∧
    decodeTableWord 64 0x000000008003215e = some (.jne32Reg .r1 .r2 0x8003) := by decide

theorem test_decode_jsgt :
    decodeTableWord 64 0x80c0000780030165 = some (.jsgt64Imm .r1 0x80c00007 0x8003) ∧
    decodeTableWord 64 0x000000008003216d = some (.jsgt64Reg .r1 .r2 0x8003) ∧
    decodeTableWord 64 0x80c0000780030166 = some (.jsgt32Imm .r1 0x80c00007 0x8003) ∧
    decodeTableWord 64 0x000000008003216e = some (.jsgt32Reg .r1 .r2 0x8003) := by decide

theorem test_decode_jsge :
    decodeTableWord 64 0x80c0000780030175 = some (.jsge64Imm .r1 0x80c00007 0x8003) ∧
    decodeTableWord 64 0x000000008003217d = some (.jsge64Reg .r1 .r2 0x8003) ∧
    decodeTableWord 64 0x80c0000780030176 = some (.jsge32Imm .r1 0x80c00007 0x8003) ∧
    decodeTableWord 64 0x000000008003217e = some (.jsge32Reg .r1 .r2 0x8003) := by decide

theorem test_decode_jlt :
    decodeTableWord 64 0x80c00007800301a5 = some (.jlt64Imm .r1 0x80c00007 0x8003) ∧
    decodeTableWord 64 0x00000000800321ad = some (.jlt64Reg .r1 .r2 0x8003) ∧
    decodeTableWord 64 0x80c00007800301a6 = some (.jlt32Imm .r1 0x80c00007 0x8003) ∧
    decodeTableWord 64 0x00000000800321ae = some (.jlt32Reg .r1 .r2 0x8003) := by decide

theorem test_decode_jle :
    decodeTableWord 64 0x80c00007800301b5 = some (.jle64Imm .r1 0x80c00007 0x8003) ∧
    decodeTableWord 64 0x00000000800321bd = some (.jle64Reg .r1 .r2 0x8003) ∧
    decodeTableWord 64 0x80c00007800301b6 = some (.jle32Imm .r1 0x80c00007 0x8003) ∧
    decodeTableWord 64 0x00000000800321be = some (.jle32Reg .r1 .r2 0x8003) := by decide

theorem test_decode_jslt :
    decodeTableWord 64 0x80c00007800301c5 = some (.jslt64Imm .r1 0x80c00007 0x8003) ∧
    decodeTableWord 64 0x00000000800321cd = some (.jslt64Reg .r1 .r2 0x8003) ∧
    decodeTableWord 64 0x80c00007800301c6 = some (.jslt32Imm .r1 0x80c00007 0x8003) ∧
    decodeTableWord 64 0x00000000800321ce = some (.jslt32Reg .r1 .r2 0x8003) := by decide

theorem test_decode_jsle :
    decodeTableWord 64 0x80c00007800301d5 = some (.jsle64Imm .r1 0x80c00007 0x8003) ∧
    decodeTableWord 64 0x00000000800321dd = some (.jsle64Reg .r1 .r2 0x8003) ∧
    decodeTableWord 64 0x80c00007800301d6 = some (.jsle32Imm .r1 0x80c00007 0x8003) ∧
    decodeTableWord 64 0x00000000800321de = some (.jsle32Reg .r1 .r2 0x8003) := by decide

theorem test_decode_call_and_exit :
    decodeTableWord 64 0x80c0000700000085 = some (.callHelper 0x80c00007) ∧
    decodeTableWord 64 0x80c0000700001085 = some (.callLocal 0x80c00007) ∧
    decodeTableWord 64 0x80c0000780032085 = some (.callBtf 0x8003 0x80c00007) ∧
    decodeTableWord 64 0x0000000000000095 = some .exit := by decide

theorem test_decode_loads :
    decodeTableWord 64 0x0000000080032161 = some (.ldxw .r1 .r2 0x8003) ∧
    decodeTableWord 64 0x0000000080032169 = some (.ldxh .r1 .r2 0x8003) ∧
    decodeTableWord 64 0x0000000080032171 = some (.ldxb .r1 .r2 0x8003) ∧
    decodeTableWord 64 0x0000000080032179 = some (.ldxdw .r1 .r2 0x8003) ∧
    decodeTableWord 64 0x0000000080032181 = some (.ldxsw .r1 .r2 0x8003) ∧
    decodeTableWord 64 0x0000000080032189 = some (.ldxsh .r1 .r2 0x8003) ∧
    decodeTableWord 64 0x0000000080032191 = some (.ldxsb .r1 .r2 0x8003) := by decide

theorem test_decode_stores_of_immediates :
    decodeTableWord 64 0x80c0000780030162 = some (.stw .r1 0x8003 0x80c00007) ∧
    decodeTableWord 64 0x80c000078003016a = some (.sth .r1 0x8003 0x80c00007) ∧
    decodeTableWord 64 0x80c0000780030172 = some (.stb .r1 0x8003 0x80c00007) ∧
    decodeTableWord 64 0x80c000078003017a = some (.stdw .r1 0x8003 0x80c00007) := by decide

theorem test_decode_stores_of_registers :
    decodeTableWord 64 0x0000000080032163 = some (.stxw .r1 .r2 0x8003) ∧
    decodeTableWord 64 0x000000008003216b = some (.stxh .r1 .r2 0x8003) ∧
    decodeTableWord 64 0x0000000080032173 = some (.stxb .r1 .r2 0x8003) ∧
    decodeTableWord 64 0x000000008003217b = some (.stxdw .r1 .r2 0x8003) := by decide

theorem test_decode_atomics32 :
    decodeTableWord 64 0x00000000800321c3 = some (.atomicAdd32 .r1 .r2 0x8003) ∧
    decodeTableWord 64 0x00000001800321c3 = some (.atomicFetchAdd32 .r1 .r2 0x8003) ∧
    decodeTableWord 64 0x00000040800321c3 = some (.atomicOr32 .r1 .r2 0x8003) ∧
    decodeTableWord 64 0x00000041800321c3 = some (.atomicFetchOr32 .r1 .r2 0x8003) ∧
    decodeTableWord 64 0x00000050800321c3 = some (.atomicAnd32 .r1 .r2 0x8003) ∧
    decodeTableWord 64 0x00000051800321c3 = some (.atomicFetchAnd32 .r1 .r2 0x8003) ∧
    decodeTableWord 64 0x000000a0800321c3 = some (.atomicXor32 .r1 .r2 0x8003) ∧
    decodeTableWord 64 0x000000a1800321c3 = some (.atomicFetchXor32 .r1 .r2 0x8003) ∧
    decodeTableWord 64 0x000000e1800321c3 = some (.atomicXchg32 .r1 .r2 0x8003) ∧
    decodeTableWord 64 0x000000f1800321c3 = some (.atomicCmpxchg32 .r1 .r2 0x8003) := by decide

theorem test_decode_atomics64 :
    decodeTableWord 64 0x00000000800321db = some (.atomicAdd64 .r1 .r2 0x8003) ∧
    decodeTableWord 64 0x00000001800321db = some (.atomicFetchAdd64 .r1 .r2 0x8003) ∧
    decodeTableWord 64 0x00000040800321db = some (.atomicOr64 .r1 .r2 0x8003) ∧
    decodeTableWord 64 0x00000041800321db = some (.atomicFetchOr64 .r1 .r2 0x8003) ∧
    decodeTableWord 64 0x00000050800321db = some (.atomicAnd64 .r1 .r2 0x8003) ∧
    decodeTableWord 64 0x00000051800321db = some (.atomicFetchAnd64 .r1 .r2 0x8003) ∧
    decodeTableWord 64 0x000000a0800321db = some (.atomicXor64 .r1 .r2 0x8003) ∧
    decodeTableWord 64 0x000000a1800321db = some (.atomicFetchXor64 .r1 .r2 0x8003) ∧
    decodeTableWord 64 0x000000e1800321db = some (.atomicXchg64 .r1 .r2 0x8003) ∧
    decodeTableWord 64 0x000000f1800321db = some (.atomicCmpxchg64 .r1 .r2 0x8003) := by decide

theorem test_decode_wide_immediates :
    decodeTableWord 128 0x9ab000010000000080c0000700000118 = some (.lddw .r1 0x80c00007 0x9ab00001) ∧
    decodeTableWord 128 0x000000000000000080c0000700001118 = some (.ldMapFd .r1 0x80c00007) ∧
    decodeTableWord 128 0x9ab000010000000080c0000700002118 = some (.ldMapFdVal .r1 0x80c00007 0x9ab00001) ∧
    decodeTableWord 128 0x000000000000000080c0000700003118 = some (.ldVarAddr .r1 0x80c00007) ∧
    decodeTableWord 128 0x000000000000000080c0000700004118 = some (.ldCodeAddr .r1 0x80c00007) ∧
    decodeTableWord 128 0x000000000000000080c0000700005118 = some (.ldMapIdx .r1 0x80c00007) ∧
    decodeTableWord 128 0x9ab000010000000080c0000700006118 = some (.ldMapIdxVal .r1 0x80c00007 0x9ab00001) := by decide

theorem test_decode_packet_loads :
    decodeTableWord 64 0x80c0000700000020 = some (.ldabsw 0x80c00007) ∧
    decodeTableWord 64 0x80c0000700000028 = some (.ldabsh 0x80c00007) ∧
    decodeTableWord 64 0x80c0000700000030 = some (.ldabsb 0x80c00007) ∧
    decodeTableWord 64 0x80c0000700002040 = some (.ldindw .r2 0x80c00007) ∧
    decodeTableWord 64 0x80c0000700002048 = some (.ldindh .r2 0x80c00007) ∧
    decodeTableWord 64 0x80c0000700002050 = some (.ldindb .r2 0x80c00007) := by decide

/-! ## Decoding: the vectors of 95_test_vectors.md section 2.7, on both hosts -/

theorem test_byte_vectors_little_1 :
    readBytes .little [0x07, 0x01, 0x00, 0x00, 0x44, 0x33, 0x22, 0x11] = some (.add64Imm .r1 0x11223344) ∧
    readBytes .little [0xb7, 0x00, 0x00, 0x00, 0x00, 0x00, 0x00, 0x00] = some (.mov64Imm .r0 0x00000000) ∧
    readBytes .little [0xbf, 0x16, 0x00, 0x00, 0x00, 0x00, 0x00, 0x00] = some (.mov64Reg .r6 .r1) ∧
    readBytes .little [0xbf, 0x16, 0x08, 0x00, 0x00, 0x00, 0x00, 0x00] = some (.movsx64From8 .r6 .r1) ∧
    readBytes .little [0xbc, 0x16, 0x20, 0x00, 0x00, 0x00, 0x00, 0x00] = none ∧
    readBytes .little [0xbf, 0x1a, 0x00, 0x00, 0x00, 0x00, 0x00, 0x00] = none ∧
    readBytes .little [0xbf, 0xa1, 0x00, 0x00, 0x00, 0x00, 0x00, 0x00] = some (.mov64Reg .r1 .r10) ∧
    readBytes .little [0xbf, 0xb1, 0x00, 0x00, 0x00, 0x00, 0x00, 0x00] = none ∧
    readBytes .little [0x0f, 0x21, 0x00, 0x00, 0x01, 0x00, 0x00, 0x00] = none ∧
    readBytes .little [0x07, 0x21, 0x00, 0x00, 0x01, 0x00, 0x00, 0x00] = none ∧
    readBytes .little [0x37, 0x01, 0x01, 0x00, 0x05, 0x00, 0x00, 0x00] = some (.sdiv64Imm .r1 0x00000005) ∧
    readBytes .little [0x37, 0x01, 0x02, 0x00, 0x05, 0x00, 0x00, 0x00] = none := by decide

theorem test_byte_vectors_little_2 :
    readBytes .little [0x17, 0x01, 0x01, 0x00, 0x05, 0x00, 0x00, 0x00] = none ∧
    readBytes .little [0x84, 0x01, 0x00, 0x00, 0x00, 0x00, 0x00, 0x00] = some (.neg32 .r1) ∧
    readBytes .little [0x8c, 0x21, 0x00, 0x00, 0x00, 0x00, 0x00, 0x00] = none ∧
    readBytes .little [0xd4, 0x01, 0x00, 0x00, 0x10, 0x00, 0x00, 0x00] = some (.le16 .r1) ∧
    readBytes .little [0xdc, 0x01, 0x00, 0x00, 0x40, 0x00, 0x00, 0x00] = some (.be64 .r1) ∧
    readBytes .little [0xd7, 0x01, 0x00, 0x00, 0x20, 0x00, 0x00, 0x00] = some (.bswap32 .r1) ∧
    readBytes .little [0xdf, 0x01, 0x00, 0x00, 0x20, 0x00, 0x00, 0x00] = none ∧
    readBytes .little [0xd4, 0x01, 0x00, 0x00, 0x08, 0x00, 0x00, 0x00] = none ∧
    readBytes .little [0x05, 0x00, 0xff, 0xff, 0x00, 0x00, 0x00, 0x00] = some (.ja 0xffff) ∧
    readBytes .little [0x06, 0x00, 0x00, 0x00, 0xff, 0xff, 0xff, 0xff] = some (.ja32 0xffffffff) ∧
    readBytes .little [0x06, 0x00, 0x01, 0x00, 0x00, 0x00, 0x00, 0x00] = none ∧
    readBytes .little [0x1d, 0xaa, 0x02, 0x00, 0x00, 0x00, 0x00, 0x00] = some (.jeq64Reg .r10 .r10 0x0002) := by decide

theorem test_byte_vectors_little_3 :
    readBytes .little [0x15, 0x01, 0x02, 0x00, 0xff, 0xff, 0xff, 0xff] = some (.jeq64Imm .r1 0xffffffff 0x0002) ∧
    readBytes .little [0x85, 0x00, 0x00, 0x00, 0x07, 0x00, 0x00, 0x00] = some (.callHelper 0x00000007) ∧
    readBytes .little [0x85, 0x10, 0x00, 0x00, 0xfe, 0xff, 0xff, 0xff] = some (.callLocal 0xfffffffe) ∧
    readBytes .little [0x85, 0x20, 0x00, 0x00, 0x63, 0x00, 0x00, 0x00] = some (.callBtf 0x0000 0x00000063) ∧
    readBytes .little [0x85, 0x30, 0x00, 0x00, 0x00, 0x00, 0x00, 0x00] = none ∧
    readBytes .little [0x95, 0x00, 0x00, 0x00, 0x00, 0x00, 0x00, 0x00] = some .exit ∧
    readBytes .little [0x95, 0x00, 0x00, 0x00, 0x01, 0x00, 0x00, 0x00] = none ∧
    readBytes .little [0x96, 0x00, 0x00, 0x00, 0x00, 0x00, 0x00, 0x00] = none ∧
    readBytes .little [0x61, 0xa1, 0xfc, 0xff, 0x00, 0x00, 0x00, 0x00] = some (.ldxw .r1 .r10 0xfffc) ∧
    readBytes .little [0x79, 0x1a, 0x00, 0x00, 0x00, 0x00, 0x00, 0x00] = none ∧
    readBytes .little [0x91, 0x21, 0x00, 0x00, 0x00, 0x00, 0x00, 0x00] = some (.ldxsb .r1 .r2 0x0000) ∧
    readBytes .little [0x99, 0x21, 0x00, 0x00, 0x00, 0x00, 0x00, 0x00] = none := by decide

theorem test_byte_vectors_little_4 :
    readBytes .little [0x62, 0x0a, 0xfc, 0xff, 0x07, 0x00, 0x00, 0x00] = some (.stw .r10 0xfffc 0x00000007) ∧
    readBytes .little [0x7b, 0x1a, 0xf8, 0xff, 0x00, 0x00, 0x00, 0x00] = some (.stxdw .r10 .r1 0xfff8) ∧
    readBytes .little [0x7b, 0x1a, 0xf8, 0xff, 0x01, 0x00, 0x00, 0x00] = none ∧
    readBytes .little [0xdb, 0x1a, 0xf8, 0xff, 0x01, 0x00, 0x00, 0x00] = some (.atomicFetchAdd64 .r10 .r1 0xfff8) ∧
    readBytes .little [0xdb, 0xaa, 0xf8, 0xff, 0x01, 0x00, 0x00, 0x00] = none ∧
    readBytes .little [0xdb, 0xaa, 0xf8, 0xff, 0x00, 0x00, 0x00, 0x00] = some (.atomicAdd64 .r10 .r10 0xfff8) ∧
    readBytes .little [0xc3, 0x21, 0x00, 0x00, 0xe0, 0x00, 0x00, 0x00] = none ∧
    readBytes .little [0xcb, 0x21, 0x00, 0x00, 0x00, 0x00, 0x00, 0x00] = none ∧
    readBytes .little [0x18, 0x01, 0x00, 0x00, 0x01, 0x00, 0x00, 0x00, 0x00, 0x00, 0x00, 0x00, 0x00, 0x00, 0x00, 0x00] = some (.lddw .r1 0x00000001 0x00000000) ∧
    readBytes .little [0x18, 0x01, 0x00, 0x00, 0x01, 0x00, 0x00, 0x00, 0x07, 0x00, 0x00, 0x00, 0x00, 0x00, 0x00, 0x00] = none ∧
    readBytes .little [0x20, 0x00, 0x00, 0x00, 0x0e, 0x00, 0x00, 0x00] = some (.ldabsw 0x0000000e) ∧
    readBytes .little [0x48, 0x30, 0x00, 0x00, 0x02, 0x00, 0x00, 0x00] = some (.ldindh .r3 0x00000002) := by decide

theorem test_byte_vectors_little_5 :
    readBytes .little [0x38, 0x00, 0x00, 0x00, 0x00, 0x00, 0x00, 0x00] = none ∧
    readBytes .little [0x00, 0x00, 0x00, 0x00, 0x00, 0x00, 0x00, 0x00] = none ∧
    readBytes .little [0xe7, 0x01, 0x00, 0x00, 0x00, 0x00, 0x00, 0x00] = none := by decide

theorem test_byte_vectors_big_1 :
    readBytes .big [0x07, 0x10, 0x00, 0x00, 0x11, 0x22, 0x33, 0x44] = some (.add64Imm .r1 0x11223344) ∧
    readBytes .big [0xb7, 0x00, 0x00, 0x00, 0x00, 0x00, 0x00, 0x00] = some (.mov64Imm .r0 0x00000000) ∧
    readBytes .big [0xbf, 0x61, 0x00, 0x00, 0x00, 0x00, 0x00, 0x00] = some (.mov64Reg .r6 .r1) ∧
    readBytes .big [0xbf, 0x61, 0x00, 0x08, 0x00, 0x00, 0x00, 0x00] = some (.movsx64From8 .r6 .r1) ∧
    readBytes .big [0xbc, 0x61, 0x00, 0x20, 0x00, 0x00, 0x00, 0x00] = none ∧
    readBytes .big [0xbf, 0xa1, 0x00, 0x00, 0x00, 0x00, 0x00, 0x00] = none ∧
    readBytes .big [0xbf, 0x1a, 0x00, 0x00, 0x00, 0x00, 0x00, 0x00] = some (.mov64Reg .r1 .r10) ∧
    readBytes .big [0xbf, 0x1b, 0x00, 0x00, 0x00, 0x00, 0x00, 0x00] = none ∧
    readBytes .big [0x0f, 0x12, 0x00, 0x00, 0x00, 0x00, 0x00, 0x01] = none ∧
    readBytes .big [0x07, 0x12, 0x00, 0x00, 0x00, 0x00, 0x00, 0x01] = none ∧
    readBytes .big [0x37, 0x10, 0x00, 0x01, 0x00, 0x00, 0x00, 0x05] = some (.sdiv64Imm .r1 0x00000005) ∧
    readBytes .big [0x37, 0x10, 0x00, 0x02, 0x00, 0x00, 0x00, 0x05] = none := by decide

theorem test_byte_vectors_big_2 :
    readBytes .big [0x17, 0x10, 0x00, 0x01, 0x00, 0x00, 0x00, 0x05] = none ∧
    readBytes .big [0x84, 0x10, 0x00, 0x00, 0x00, 0x00, 0x00, 0x00] = some (.neg32 .r1) ∧
    readBytes .big [0x8c, 0x12, 0x00, 0x00, 0x00, 0x00, 0x00, 0x00] = none ∧
    readBytes .big [0xd4, 0x10, 0x00, 0x00, 0x00, 0x00, 0x00, 0x10] = some (.le16 .r1) ∧
    readBytes .big [0xdc, 0x10, 0x00, 0x00, 0x00, 0x00, 0x00, 0x40] = some (.be64 .r1) ∧
    readBytes .big [0xd7, 0x10, 0x00, 0x00, 0x00, 0x00, 0x00, 0x20] = some (.bswap32 .r1) ∧
    readBytes .big [0xdf, 0x10, 0x00, 0x00, 0x00, 0x00, 0x00, 0x20] = none ∧
    readBytes .big [0xd4, 0x10, 0x00, 0x00, 0x00, 0x00, 0x00, 0x08] = none ∧
    readBytes .big [0x05, 0x00, 0xff, 0xff, 0x00, 0x00, 0x00, 0x00] = some (.ja 0xffff) ∧
    readBytes .big [0x06, 0x00, 0x00, 0x00, 0xff, 0xff, 0xff, 0xff] = some (.ja32 0xffffffff) ∧
    readBytes .big [0x06, 0x00, 0x00, 0x01, 0x00, 0x00, 0x00, 0x00] = none ∧
    readBytes .big [0x1d, 0xaa, 0x00, 0x02, 0x00, 0x00, 0x00, 0x00] = some (.jeq64Reg .r10 .r10 0x0002) := by decide

theorem test_byte_vectors_big_3 :
    readBytes .big [0x15, 0x10, 0x00, 0x02, 0xff, 0xff, 0xff, 0xff] = some (.jeq64Imm .r1 0xffffffff 0x0002) ∧
    readBytes .big [0x85, 0x00, 0x00, 0x00, 0x00, 0x00, 0x00, 0x07] = some (.callHelper 0x00000007) ∧
    readBytes .big [0x85, 0x01, 0x00, 0x00, 0xff, 0xff, 0xff, 0xfe] = some (.callLocal 0xfffffffe) ∧
    readBytes .big [0x85, 0x02, 0x00, 0x00, 0x00, 0x00, 0x00, 0x63] = some (.callBtf 0x0000 0x00000063) ∧
    readBytes .big [0x85, 0x03, 0x00, 0x00, 0x00, 0x00, 0x00, 0x00] = none ∧
    readBytes .big [0x95, 0x00, 0x00, 0x00, 0x00, 0x00, 0x00, 0x00] = some .exit ∧
    readBytes .big [0x95, 0x00, 0x00, 0x00, 0x00, 0x00, 0x00, 0x01] = none ∧
    readBytes .big [0x96, 0x00, 0x00, 0x00, 0x00, 0x00, 0x00, 0x00] = none ∧
    readBytes .big [0x61, 0x1a, 0xff, 0xfc, 0x00, 0x00, 0x00, 0x00] = some (.ldxw .r1 .r10 0xfffc) ∧
    readBytes .big [0x79, 0xa1, 0x00, 0x00, 0x00, 0x00, 0x00, 0x00] = none ∧
    readBytes .big [0x91, 0x12, 0x00, 0x00, 0x00, 0x00, 0x00, 0x00] = some (.ldxsb .r1 .r2 0x0000) ∧
    readBytes .big [0x99, 0x12, 0x00, 0x00, 0x00, 0x00, 0x00, 0x00] = none := by decide

theorem test_byte_vectors_big_4 :
    readBytes .big [0x62, 0xa0, 0xff, 0xfc, 0x00, 0x00, 0x00, 0x07] = some (.stw .r10 0xfffc 0x00000007) ∧
    readBytes .big [0x7b, 0xa1, 0xff, 0xf8, 0x00, 0x00, 0x00, 0x00] = some (.stxdw .r10 .r1 0xfff8) ∧
    readBytes .big [0x7b, 0xa1, 0xff, 0xf8, 0x00, 0x00, 0x00, 0x01] = none ∧
    readBytes .big [0xdb, 0xa1, 0xff, 0xf8, 0x00, 0x00, 0x00, 0x01] = some (.atomicFetchAdd64 .r10 .r1 0xfff8) ∧
    readBytes .big [0xdb, 0xaa, 0xff, 0xf8, 0x00, 0x00, 0x00, 0x01] = none ∧
    readBytes .big [0xdb, 0xaa, 0xff, 0xf8, 0x00, 0x00, 0x00, 0x00] = some (.atomicAdd64 .r10 .r10 0xfff8) ∧
    readBytes .big [0xc3, 0x12, 0x00, 0x00, 0x00, 0x00, 0x00, 0xe0] = none ∧
    readBytes .big [0xcb, 0x12, 0x00, 0x00, 0x00, 0x00, 0x00, 0x00] = none ∧
    readBytes .big [0x18, 0x10, 0x00, 0x00, 0x00, 0x00, 0x00, 0x01, 0x00, 0x00, 0x00, 0x00, 0x00, 0x00, 0x00, 0x00] = some (.lddw .r1 0x00000001 0x00000000) ∧
    readBytes .big [0x18, 0x10, 0x00, 0x00, 0x00, 0x00, 0x00, 0x01, 0x07, 0x00, 0x00, 0x00, 0x00, 0x00, 0x00, 0x00] = none ∧
    readBytes .big [0x20, 0x00, 0x00, 0x00, 0x00, 0x00, 0x00, 0x0e] = some (.ldabsw 0x0000000e) ∧
    readBytes .big [0x48, 0x03, 0x00, 0x00, 0x00, 0x00, 0x00, 0x02] = some (.ldindh .r3 0x00000002) := by decide

theorem test_byte_vectors_big_5 :
    readBytes .big [0x38, 0x00, 0x00, 0x00, 0x00, 0x00, 0x00, 0x00] = none ∧
    readBytes .big [0x00, 0x00, 0x00, 0x00, 0x00, 0x00, 0x00, 0x00] = none ∧
    readBytes .big [0xe7, 0x10, 0x00, 0x00, 0x00, 0x00, 0x00, 0x00] = none := by decide

/-- Each reason for which a word is no instruction (R118 to R120). -/
theorem test_reasons :
    whyNot 0x00000000000001e7 none = some .unknownOpcode ∧ whyNot 0x0000000500020137 none = some .badSelector ∧
    whyNot 0x000000010000210f none = some .unusedField ∧ whyNot 0x000000000000b1bf none = some .badRegister ∧
    whyNot 0x0000000000001abf none = some .writesR10 ∧ whyNot 0x0000000100000118 none = some .missingSecondSlot ∧
    whyNot 0x0000000100000118 (some 7) = some .badSecondSlot := by decide

/-- Opcodes that the tables of R110 to R113 leave out or reserve. -/
theorem test_reserved_opcodes :
    whyNot 0x00000020000001df none = some .unknownOpcode ∧ whyNot 0x0000000000000096 none = some .unknownOpcode ∧
    whyNot 0x0000000000002199 none = some .unknownOpcode ∧ whyNot 0x00000000000021cb none = some .unknownOpcode ∧
    whyNot 0x0000000000000038 none = some .unknownOpcode ∧ whyNot 0 none = some .unknownOpcode ∧
    whyNot 0x000000000000218c none = some .unknownOpcode := by decide

/-! ## Small states -/

/-- A platform for tests: all conformance groups, one region of 0x1000 bytes at 0x1000 for every access, rows of each
platform function, and the bytes 0x1800 to 0x180f shared with other agents. -/
def bench (e : Endian) (strict : Bool) : Platform :=
  { Platform.default with
    endian := e
    groups := [.base64, .atomic64, .divmul64, .packet]
    admission := [.region 0x1000 0x1000 .read, .region 0x1000 0x1000 .write, .region 0x1000 0x1000 .atomic]
    alignStrict := strict
    helpers :=
      [⟨.static 7, none, [], .returns 0x2a [(0x1000, 0xaa)]⟩, ⟨.static 8, none, [], .fails⟩,
        ⟨.static 10, none, [(0x1800, 1)], .returns 0x11 []⟩, ⟨.static 10, none, [(0x1800, 2)], .returns 0x22 []⟩,
        ⟨.btf 0x63 2, none, [], .returns 0x2b []⟩, ⟨.btf 0x64 2, none, [], .fails⟩]
    mapByFd := [(5, 0x5000), (6, 0x6000)]
    mapByIdx := [(-1, 0x5000), (1, 0x6000)]
    mapVal := [(0x5000, 0x5100)]
    varAddr := [(3, 0x3000)]
    codeAddr := [((4, 9), 0x4000)]
    shared := [(0x1800, 16)] }

/-- A running state at slot 4 with the given `R0`, `R1` and `R2`, `R3` to `R9` without a value, and some stored bytes. -/
def at4 (p : Platform) (x0 x1 x2 : Option Word) (mem : Memory) : State :=
  { State.runStart p [] mem [] with
    pc := 4
    regs := ⟨x0, x1, x2, none, none, none, none, none, none, none, some 0x8000⟩ }

/-- The state an instruction leaves, if it answers a next one. -/
def after (i : Instr) (s : State) : Option State :=
  match exec i s with
  | .next t => some t
  | _ => none

/-- The fault an instruction raises, if it does. -/
def faultOf (i : Instr) (s : State) : Option Fault :=
  match exec i s with
  | .fault f => some f
  | _ => none

/-- `R1` after an instruction, from given `R1` and `R2`. -/
def r1After (i : Instr) (x1 x2 : Option Word) : Option Word :=
  (after i (at4 (bench .little true) none x1 x2 [])).bind fun t => t.reg .r1

/-- `R1` after a byte swap on a host. -/
def swapped (e : Endian) (i : Instr) (x1 : Word) : Option Word :=
  (after i (at4 (bench e true) none (some x1) none [])).bind fun t => t.reg .r1

/-- The slot after an instruction at slot 4. -/
def pcAfter (i : Instr) (x1 x2 : Option Word) : Option Int :=
  (after i (at4 (bench .little true) none x1 x2 [])).map State.pc

/-- Bytes stored from an address on. -/
def cells (a : Nat) (bs : List Byte) : Memory := Memory.putBytes [] a bs

/-- `R1` after a load from 0x1000, where the bytes of section 2.4 stand. -/
def loaded (e : Endian) (i : Instr) : Option Word :=
  (after i (at4 (bench e true) none none (some 0x1000)
    (cells 0x1000 [0x91, 0x22, 0x33, 0x44, 0x55, 0x66, 0x77, 0x88]))).bind fun t => t.reg .r1

/-- What a store through `R1 = 0x1000` leaves in memory (the eight bytes below it admitted too). -/
def stored (e : Endian) (i : Instr) : Memory :=
  match after i (at4 { bench e true with admission := [.region 0xff8 0x18 .write] } none (some 0x1000)
    (some 0x1122334455667788) []) with
  | some t => t.mem
  | none => []

/-- The value of `n` bytes at 0x1000 and the register `r` after an atomic there. -/
def atomically (n : Nat) (i : Instr) (v x0 : Word) (r : Reg) : Option (Word × Option Word) :=
  (after i (at4 (bench .little false) (some x0) (some 0x1000) (some 0x000000010000001f)
    (cells 0x1000 (bytesLE n v)))).map fun t => (t.valueAt 0x1000 n, t.reg r)

/-! ## Results: the vectors of 95_test_vectors.md sections 2.1 to 2.5 -/

theorem test_add :
    r1After (.add32Imm .r1 0x00000001) (some 0xffffffffffffffff) none = some 0x0000000000000000 ∧
    r1After (.add32Reg .r1 .r2) (some 0xffffffffffffffff) (some 0x0000000100000001) = some 0x0000000000000000 ∧
    r1After (.add64Imm .r1 0x00000001) (some 0xffffffffffffffff) none = some 0x0000000000000000 ∧
    r1After (.add64Reg .r1 .r2) (some 0xffffffffffffffff) (some 0x0000000100000001) = some 0x0000000100000000 ∧
    r1After (.add64Reg .r1 .r2) (some 0xffffffffffffffff) (some 0x0000000000000001) = some 0x0000000000000000 ∧
    r1After (.add32Reg .r1 .r2) (some 0x00000000ffffffff) (some 0x0000000000000001) = some 0x0000000000000000 := by decide

theorem test_sub :
    r1After (.sub32Imm .r1 0x00000001) (some 0x0000000000000000) none = some 0x00000000ffffffff ∧
    r1After (.sub32Reg .r1 .r2) (some 0x0000000000000000) (some 0xffffffff00000001) = some 0x00000000ffffffff ∧
    r1After (.sub64Imm .r1 0x00000001) (some 0x0000000000000000) none = some 0xffffffffffffffff ∧
    r1After (.sub64Reg .r1 .r2) (some 0x0000000000000000) (some 0xffffffff00000001) = some 0x00000000ffffffff := by decide

theorem test_mul :
    r1After (.mul32Imm .r1 0xfffffffe) (some 0x00000001ffffffff) none = some 0x0000000000000002 ∧
    r1After (.mul32Reg .r1 .r2) (some 0x00000001ffffffff) (some 0x0000000000000003) = some 0x00000000fffffffd ∧
    r1After (.mul64Imm .r1 0xfffffffe) (some 0x00000001ffffffff) none = some 0xfffffffc00000002 ∧
    r1After (.mul64Reg .r1 .r2) (some 0x00000001ffffffff) (some 0x0000000000000003) = some 0x00000005fffffffd ∧
    r1After (.mul64Reg .r1 .r2) (some 0xffffffffffffffff) (some 0xffffffffffffffff) = some 0x0000000000000001 ∧
    r1After (.mul32Reg .r1 .r2) (some 0x0000000080000000) (some 0x0000000000000002) = some 0x0000000000000000 := by decide

theorem test_div :
    r1After (.div32Imm .r1 0x00000002) (some 0xfffffffffffffff9) none = some 0x000000007ffffffc ∧
    r1After (.div32Reg .r1 .r2) (some 0xfffffffffffffff9) (some 0x0000000000000000) = some 0x0000000000000000 ∧
    r1After (.div64Imm .r1 0x00000002) (some 0xfffffffffffffff9) none = some 0x7ffffffffffffffc ∧
    r1After (.div64Reg .r1 .r2) (some 0xfffffffffffffff9) (some 0x0000000000000000) = some 0x0000000000000000 ∧
    r1After (.div64Reg .r1 .r2) (some 0x0000000000001234) (some 0x0000000000000000) = some 0x0000000000000000 ∧
    r1After (.div32Reg .r1 .r2) (some 0xffffffff00001234) (some 0x0000000000000000) = some 0x0000000000000000 ∧
    r1After (.div64Imm .r1 0xffffffff) (some 0xffffffffffffffff) none = some 0x0000000000000001 ∧
    r1After (.div32Imm .r1 0xffffffff) (some 0x00000000fffffffe) none = some 0x0000000000000000 := by decide

theorem test_sdiv :
    r1After (.sdiv32Imm .r1 0x00000002) (some 0xfffffffffffffff9) none = some 0x00000000fffffffd ∧
    r1After (.sdiv32Reg .r1 .r2) (some 0xfffffffffffffff9) (some 0xfffffffffffffffe) = some 0x0000000000000003 ∧
    r1After (.sdiv64Imm .r1 0x00000002) (some 0xfffffffffffffff9) none = some 0xfffffffffffffffd ∧
    r1After (.sdiv64Reg .r1 .r2) (some 0xfffffffffffffff9) (some 0xfffffffffffffffe) = some 0x0000000000000003 ∧
    r1After (.sdiv64Reg .r1 .r2) (some 0xfffffffffffffff9) (some 0x0000000000000000) = some 0x0000000000000000 ∧
    r1After (.sdiv64Reg .r1 .r2) (some 0x8000000000000000) (some 0xffffffffffffffff) = some 0x8000000000000000 ∧
    r1After (.sdiv32Reg .r1 .r2) (some 0x0000000080000000) (some 0x00000000ffffffff) = some 0x0000000080000000 ∧
    r1After (.sdiv64Reg .r1 .r2) (some 0xfffffffffffffff9) (some 0x0000000000000002) = some 0xfffffffffffffffd ∧
    r1After (.sdiv64Reg .r1 .r2) (some 0x0000000000000007) (some 0xfffffffffffffffe) = some 0xfffffffffffffffd := by decide

theorem test_or :
    r1After (.or32Imm .r1 0xffffff00) (some 0x00000000f0f0f0f0) none = some 0x00000000fffffff0 ∧
    r1After (.or32Reg .r1 .r2) (some 0x00000000f0f0f0f0) (some 0x0f0f0f0f00000000) = some 0x00000000f0f0f0f0 ∧
    r1After (.or64Imm .r1 0xffffff00) (some 0x00000000f0f0f0f0) none = some 0xfffffffffffffff0 ∧
    r1After (.or64Reg .r1 .r2) (some 0x00000000f0f0f0f0) (some 0x0f0f0f0f00000000) = some 0x0f0f0f0ff0f0f0f0 ∧
    r1After (.or64Imm .r1 0x80000000) (some 0x0000000000000000) none = some 0xffffffff80000000 := by decide

theorem test_and :
    r1After (.and32Imm .r1 0xfffffff0) (some 0x123456789abcdef0) none = some 0x000000009abcdef0 ∧
    r1After (.and32Reg .r1 .r2) (some 0x123456789abcdef0) (some 0x00000000ffffffff) = some 0x000000009abcdef0 ∧
    r1After (.and64Imm .r1 0xfffffff0) (some 0x123456789abcdef0) none = some 0x123456789abcdef0 ∧
    r1After (.and64Reg .r1 .r2) (some 0x123456789abcdef0) (some 0x00000000ffffffff) = some 0x000000009abcdef0 ∧
    r1After (.and64Imm .r1 0xffffff00) (some 0xffffffffffffffff) none = some 0xffffffffffffff00 ∧
    r1After (.and32Imm .r1 0xffffff00) (some 0xffffffffffffffff) none = some 0x00000000ffffff00 := by decide

theorem test_lsh :
    r1After (.lsh32Imm .r1 0x00000021) (some 0x8000000000000001) none = some 0x0000000000000002 ∧
    r1After (.lsh32Reg .r1 .r2) (some 0x8000000000000001) (some 0x0000000000000040) = some 0x0000000000000001 ∧
    r1After (.lsh64Imm .r1 0x00000021) (some 0x8000000000000001) none = some 0x0000000200000000 ∧
    r1After (.lsh64Reg .r1 .r2) (some 0x8000000000000001) (some 0x0000000000000040) = some 0x8000000000000001 ∧
    r1After (.lsh64Reg .r1 .r2) (some 0x0000000000000001) (some 0x0000000000000040) = some 0x0000000000000001 ∧
    r1After (.lsh64Reg .r1 .r2) (some 0x0000000000000001) (some 0x000000000000007f) = some 0x8000000000000000 ∧
    r1After (.lsh32Reg .r1 .r2) (some 0x0000000000000001) (some 0x0000000000000020) = some 0x0000000000000001 ∧
    r1After (.lsh32Reg .r1 .r2) (some 0x00000000c0000001) (some 0x0000000000000001) = some 0x0000000080000002 := by decide

theorem test_rsh :
    r1After (.rsh32Imm .r1 0x0000001f) (some 0x8000000080000000) none = some 0x0000000000000001 ∧
    r1After (.rsh32Reg .r1 .r2) (some 0x8000000080000000) (some 0x0000000000000020) = some 0x0000000080000000 ∧
    r1After (.rsh64Imm .r1 0x0000001f) (some 0x8000000080000000) none = some 0x0000000100000001 ∧
    r1After (.rsh64Reg .r1 .r2) (some 0x8000000080000000) (some 0x0000000000000020) = some 0x0000000080000000 ∧
    r1After (.rsh64Imm .r1 0x0000003f) (some 0x8000000000000000) none = some 0x0000000000000001 := by decide

theorem test_mod :
    r1After (.mod32Imm .r1 0x00000003) (some 0xfffffffffffffff3) none = some 0x0000000000000000 ∧
    r1After (.mod32Reg .r1 .r2) (some 0xfffffffffffffff3) (some 0x0000000000000000) = some 0x00000000fffffff3 ∧
    r1After (.mod64Imm .r1 0x00000003) (some 0xfffffffffffffff3) none = some 0x0000000000000000 ∧
    r1After (.mod64Reg .r1 .r2) (some 0xfffffffffffffff3) (some 0x0000000000000000) = some 0xfffffffffffffff3 ∧
    r1After (.mod64Reg .r1 .r2) (some 0xffffffff00001234) (some 0x0000000000000000) = some 0xffffffff00001234 ∧
    r1After (.mod32Reg .r1 .r2) (some 0xffffffff00001234) (some 0x0000000000000000) = some 0x0000000000001234 := by decide

theorem test_smod :
    r1After (.smod32Imm .r1 0x00000003) (some 0xfffffffffffffff3) none = some 0x00000000ffffffff ∧
    r1After (.smod32Reg .r1 .r2) (some 0xfffffffffffffff3) (some 0xfffffffffffffffd) = some 0x00000000ffffffff ∧
    r1After (.smod64Imm .r1 0x00000003) (some 0xfffffffffffffff3) none = some 0xffffffffffffffff ∧
    r1After (.smod64Reg .r1 .r2) (some 0xfffffffffffffff3) (some 0xfffffffffffffffd) = some 0xffffffffffffffff ∧
    r1After (.smod32Reg .r1 .r2) (some 0xffffffff80001234) (some 0x0000000000000000) = some 0x0000000080001234 ∧
    r1After (.smod64Reg .r1 .r2) (some 0x8000000000000000) (some 0xffffffffffffffff) = some 0x0000000000000000 ∧
    r1After (.smod32Reg .r1 .r2) (some 0x0000000080000000) (some 0x00000000ffffffff) = some 0x0000000000000000 ∧
    r1After (.smod64Reg .r1 .r2) (some 0x000000000000000d) (some 0xfffffffffffffffd) = some 0x0000000000000001 := by decide

theorem test_xor :
    r1After (.xor32Imm .r1 0xffffffff) (some 0xffffffffffffffff) none = some 0x0000000000000000 ∧
    r1After (.xor32Reg .r1 .r2) (some 0xffffffffffffffff) (some 0x00000000ffffffff) = some 0x0000000000000000 ∧
    r1After (.xor64Imm .r1 0xffffffff) (some 0xffffffffffffffff) none = some 0x0000000000000000 ∧
    r1After (.xor64Reg .r1 .r2) (some 0xffffffffffffffff) (some 0x00000000ffffffff) = some 0xffffffff00000000 ∧
    r1After (.xor32Reg .r1 .r2) (some 0x123456789abcdef0) (some 0x123456789abcdef0) = some 0x0000000000000000 := by decide

theorem test_mov :
    r1After (.mov32Imm .r1 0xfffffffe) none none = some 0x00000000fffffffe ∧
    r1After (.mov32Reg .r1 .r2) none (some 0x123456789abcdef0) = some 0x000000009abcdef0 ∧
    r1After (.mov64Imm .r1 0xfffffffe) none none = some 0xfffffffffffffffe ∧
    r1After (.mov64Reg .r1 .r2) none (some 0x123456789abcdef0) = some 0x123456789abcdef0 ∧
    r1After (.mov32Reg .r1 .r2) (some 0xaaaaaaaaaaaaaaaa) (some 0xffffffffffffffff) = some 0x00000000ffffffff ∧
    r1After (.mov64Imm .r1 0xffffffff) (some 0x0000000000000000) none = some 0xffffffffffffffff ∧
    r1After (.mov32Imm .r1 0xffffffff) (some 0x0000000000000000) none = some 0x00000000ffffffff := by decide

theorem test_arsh :
    r1After (.arsh32Imm .r1 0x0000001f) (some 0x8000000080000000) none = some 0x00000000ffffffff ∧
    r1After (.arsh32Reg .r1 .r2) (some 0x8000000080000000) (some 0x000000000000003f) = some 0x00000000ffffffff ∧
    r1After (.arsh64Imm .r1 0x0000001f) (some 0x8000000080000000) none = some 0xffffffff00000001 ∧
    r1After (.arsh64Reg .r1 .r2) (some 0x8000000080000000) (some 0x000000000000003f) = some 0xffffffffffffffff ∧
    r1After (.arsh64Imm .r1 0x0000003f) (some 0x8000000000000000) none = some 0xffffffffffffffff ∧
    r1After (.arsh32Imm .r1 0x0000001f) (some 0x0000000080000000) none = some 0x00000000ffffffff ∧
    r1After (.arsh32Imm .r1 0x00000004) (some 0xffffffff7fffffff) none = some 0x0000000007ffffff := by decide

theorem test_neg :
    r1After (.neg32 .r1) (some 0x0000000000000001) none = some 0x00000000ffffffff ∧
    r1After (.neg64 .r1) (some 0x0000000000000001) none = some 0xffffffffffffffff ∧
    r1After (.neg64 .r1) (some 0x8000000000000000) none = some 0x8000000000000000 ∧
    r1After (.neg32 .r1) (some 0x0000000000000000) none = some 0x0000000000000000 ∧
    r1After (.neg32 .r1) (some 0xffffffff80000000) none = some 0x0000000080000000 := by decide

theorem test_movsx :
    r1After (.movsx32From8 .r1 .r2) none (some 0x1234567800000080) = some 0x00000000ffffff80 ∧
    r1After (.movsx32From16 .r1 .r2) none (some 0x000000001234fffe) = some 0x00000000fffffffe ∧
    r1After (.movsx64From8 .r1 .r2) none (some 0x1234567800000080) = some 0xffffffffffffff80 ∧
    r1After (.movsx64From16 .r1 .r2) none (some 0x000000001234fffe) = some 0xfffffffffffffffe ∧
    r1After (.movsx64From32 .r1 .r2) none (some 0x1234567880000000) = some 0xffffffff80000000 ∧
    r1After (.movsx32From8 .r1 .r2) none (some 0x000000000000007f) = some 0x000000000000007f ∧
    r1After (.movsx32From8 .r1 .r2) none (some 0x0000000000000080) = some 0x00000000ffffff80 ∧
    r1After (.movsx32From16 .r1 .r2) none (some 0x0000000000008000) = some 0x00000000ffff8000 ∧
    r1After (.movsx32From16 .r1 .r2) none (some 0x0000000012347fff) = some 0x0000000000007fff ∧
    r1After (.movsx64From8 .r1 .r2) none (some 0x00000000000000ff) = some 0xffffffffffffffff ∧
    r1After (.movsx64From16 .r1 .r2) none (some 0x00000000ffff7fff) = some 0x0000000000007fff ∧
    r1After (.movsx64From32 .r1 .r2) none (some 0x0000000080000000) = some 0xffffffff80000000 ∧
    r1After (.movsx64From32 .r1 .r2) none (some 0xffffffff7fffffff) = some 0x000000007fffffff := by decide

theorem test_le :
    swapped .little (.le16 .r1) 0x1122334455667788 = some 0x0000000000007788 ∧
    swapped .big (.le16 .r1) 0x1122334455667788 = some 0x0000000000008877 ∧
    swapped .little (.le32 .r1) 0x1122334455667788 = some 0x0000000055667788 ∧
    swapped .big (.le32 .r1) 0x1122334455667788 = some 0x0000000088776655 ∧
    swapped .little (.le64 .r1) 0x1122334455667788 = some 0x1122334455667788 ∧
    swapped .big (.le64 .r1) 0x1122334455667788 = some 0x8877665544332211 ∧
    swapped .little (.le32 .r1) 0xffffffff80000000 = some 0x0000000080000000 ∧
    swapped .big (.le32 .r1) 0xffffffff80000000 = some 0x0000000000000080 := by decide

theorem test_be :
    swapped .little (.be16 .r1) 0x1122334455667788 = some 0x0000000000008877 ∧
    swapped .big (.be16 .r1) 0x1122334455667788 = some 0x0000000000007788 ∧
    swapped .little (.be32 .r1) 0x1122334455667788 = some 0x0000000088776655 ∧
    swapped .big (.be32 .r1) 0x1122334455667788 = some 0x0000000055667788 ∧
    swapped .little (.be64 .r1) 0x1122334455667788 = some 0x8877665544332211 ∧
    swapped .big (.be64 .r1) 0x1122334455667788 = some 0x1122334455667788 := by decide

theorem test_bswap :
    swapped .little (.bswap16 .r1) 0x1122334455667788 = some 0x0000000000008877 ∧
    swapped .big (.bswap16 .r1) 0x1122334455667788 = some 0x0000000000008877 ∧
    swapped .little (.bswap32 .r1) 0x1122334455667788 = some 0x0000000088776655 ∧
    swapped .big (.bswap32 .r1) 0x1122334455667788 = some 0x0000000088776655 ∧
    swapped .little (.bswap64 .r1) 0x1122334455667788 = some 0x8877665544332211 ∧
    swapped .big (.bswap64 .r1) 0x1122334455667788 = some 0x8877665544332211 ∧
    swapped .little (.bswap16 .r1) 0xffffffffffff00ff = some 0x000000000000ff00 ∧
    swapped .big (.bswap16 .r1) 0xffffffffffff00ff = some 0x000000000000ff00 := by decide

theorem test_jeq :
    pcAfter (.jeq64Imm .r1 0xffffffff 3) (some 0xffffffff00000001) none = some 5 ∧
    pcAfter (.jeq64Reg .r1 .r2 3) (some 0xffffffff00000001) (some 0x0000000000000002) = some 5 ∧
    pcAfter (.jeq32Imm .r1 0xffffffff 3) (some 0xffffffff00000001) none = some 5 ∧
    pcAfter (.jeq32Reg .r1 .r2 3) (some 0xffffffff00000001) (some 0x0000000000000002) = some 5 ∧
    pcAfter (.jeq32Reg .r1 .r2 3) (some 0x1111111100000005) (some 0x2222222200000005) = some 8 ∧
    pcAfter (.jeq64Reg .r1 .r2 3) (some 0x1111111100000005) (some 0x2222222200000005) = some 5 := by decide

theorem test_jgt :
    pcAfter (.jgt64Imm .r1 0xffffffff 3) (some 0xffffffff00000001) none = some 5 ∧
    pcAfter (.jgt64Reg .r1 .r2 3) (some 0xffffffff00000001) (some 0x0000000000000002) = some 8 ∧
    pcAfter (.jgt32Imm .r1 0xffffffff 3) (some 0xffffffff00000001) none = some 5 ∧
    pcAfter (.jgt32Reg .r1 .r2 3) (some 0xffffffff00000001) (some 0x0000000000000002) = some 5 ∧
    pcAfter (.jgt64Reg .r1 .r2 3) (some 0x8000000000000000) (some 0x7fffffffffffffff) = some 8 := by decide

theorem test_jge :
    pcAfter (.jge64Imm .r1 0xffffffff 3) (some 0xffffffff00000001) none = some 5 ∧
    pcAfter (.jge64Reg .r1 .r2 3) (some 0xffffffff00000001) (some 0x0000000000000002) = some 8 ∧
    pcAfter (.jge32Imm .r1 0xffffffff 3) (some 0xffffffff00000001) none = some 5 ∧
    pcAfter (.jge32Reg .r1 .r2 3) (some 0xffffffff00000001) (some 0x0000000000000002) = some 5 ∧
    pcAfter (.jge64Imm .r1 0x00000000 3) (some 0x0000000000000000) none = some 8 := by decide

theorem test_jset :
    pcAfter (.jset64Imm .r1 0xffffffff 3) (some 0xffffffff00000001) none = some 8 ∧
    pcAfter (.jset64Reg .r1 .r2 3) (some 0xffffffff00000001) (some 0x0000000000000002) = some 5 ∧
    pcAfter (.jset32Imm .r1 0xffffffff 3) (some 0xffffffff00000001) none = some 8 ∧
    pcAfter (.jset32Reg .r1 .r2 3) (some 0xffffffff00000001) (some 0x0000000000000002) = some 5 ∧
    pcAfter (.jset64Imm .r1 0x80000000 3) (some 0x8000000000000000) none = some 8 ∧
    pcAfter (.jset32Imm .r1 0x80000000 3) (some 0x8000000000000000) none = some 5 := by decide

theorem test_jne :
    pcAfter (.jne64Imm .r1 0xffffffff 3) (some 0xffffffff00000001) none = some 8 ∧
    pcAfter (.jne64Reg .r1 .r2 3) (some 0xffffffff00000001) (some 0x0000000000000002) = some 8 ∧
    pcAfter (.jne32Imm .r1 0xffffffff 3) (some 0xffffffff00000001) none = some 8 ∧
    pcAfter (.jne32Reg .r1 .r2 3) (some 0xffffffff00000001) (some 0x0000000000000002) = some 8 := by decide

theorem test_jsgt :
    pcAfter (.jsgt64Imm .r1 0xffffffff 3) (some 0xffffffff00000001) none = some 5 ∧
    pcAfter (.jsgt64Reg .r1 .r2 3) (some 0xffffffff00000001) (some 0x0000000000000002) = some 5 ∧
    pcAfter (.jsgt32Imm .r1 0xffffffff 3) (some 0xffffffff00000001) none = some 8 ∧
    pcAfter (.jsgt32Reg .r1 .r2 3) (some 0xffffffff00000001) (some 0x0000000000000002) = some 5 ∧
    pcAfter (.jsgt64Reg .r1 .r2 3) (some 0x8000000000000000) (some 0x7fffffffffffffff) = some 5 := by decide

theorem test_jsge :
    pcAfter (.jsge64Imm .r1 0xffffffff 3) (some 0xffffffff00000001) none = some 5 ∧
    pcAfter (.jsge64Reg .r1 .r2 3) (some 0xffffffff00000001) (some 0x0000000000000002) = some 5 ∧
    pcAfter (.jsge32Imm .r1 0xffffffff 3) (some 0xffffffff00000001) none = some 8 ∧
    pcAfter (.jsge32Reg .r1 .r2 3) (some 0xffffffff00000001) (some 0x0000000000000002) = some 5 := by decide

theorem test_jlt :
    pcAfter (.jlt64Imm .r1 0xffffffff 3) (some 0xffffffff00000001) none = some 8 ∧
    pcAfter (.jlt64Reg .r1 .r2 3) (some 0xffffffff00000001) (some 0x0000000000000002) = some 5 ∧
    pcAfter (.jlt32Imm .r1 0xffffffff 3) (some 0xffffffff00000001) none = some 8 ∧
    pcAfter (.jlt32Reg .r1 .r2 3) (some 0xffffffff00000001) (some 0x0000000000000002) = some 8 ∧
    pcAfter (.jlt64Imm .r1 0x00000000 3) (some 0xffffffffffffffff) none = some 5 := by decide

theorem test_jle :
    pcAfter (.jle64Imm .r1 0xffffffff 3) (some 0xffffffff00000001) none = some 8 ∧
    pcAfter (.jle64Reg .r1 .r2 3) (some 0xffffffff00000001) (some 0x0000000000000002) = some 5 ∧
    pcAfter (.jle32Imm .r1 0xffffffff 3) (some 0xffffffff00000001) none = some 8 ∧
    pcAfter (.jle32Reg .r1 .r2 3) (some 0xffffffff00000001) (some 0x0000000000000002) = some 8 ∧
    pcAfter (.jle64Imm .r1 0x00000000 3) (some 0xffffffffffffffff) none = some 5 := by decide

theorem test_jslt :
    pcAfter (.jslt64Imm .r1 0xffffffff 3) (some 0xffffffff00000001) none = some 8 ∧
    pcAfter (.jslt64Reg .r1 .r2 3) (some 0xffffffff00000001) (some 0x0000000000000002) = some 8 ∧
    pcAfter (.jslt32Imm .r1 0xffffffff 3) (some 0xffffffff00000001) none = some 5 ∧
    pcAfter (.jslt32Reg .r1 .r2 3) (some 0xffffffff00000001) (some 0x0000000000000002) = some 8 ∧
    pcAfter (.jslt32Reg .r1 .r2 3) (some 0x0000000080000000) (some 0x0000000000000000) = some 8 ∧
    pcAfter (.jslt64Reg .r1 .r2 3) (some 0x0000000080000000) (some 0x0000000000000000) = some 5 := by decide

theorem test_jsle :
    pcAfter (.jsle64Imm .r1 0xffffffff 3) (some 0xffffffff00000001) none = some 8 ∧
    pcAfter (.jsle64Reg .r1 .r2 3) (some 0xffffffff00000001) (some 0x0000000000000002) = some 8 ∧
    pcAfter (.jsle32Imm .r1 0xffffffff 3) (some 0xffffffff00000001) none = some 5 ∧
    pcAfter (.jsle32Reg .r1 .r2 3) (some 0xffffffff00000001) (some 0x0000000000000002) = some 8 ∧
    pcAfter (.jsle64Imm .r1 0x00000000 3) (some 0xffffffffffffffff) none = some 8 := by decide

theorem test_goto :
    pcAfter (.ja 3) none none = some 8 ∧
    pcAfter (.ja 0) none none = some 5 ∧
    pcAfter (.ja 0xffff) none none = some 4 ∧
    pcAfter (.ja 0xfffb) none none = some 0 ∧
    pcAfter (.ja 0xfffa) none none = some (-1) ∧
    pcAfter (.ja 15) none none = some 20 ∧
    pcAfter (.ja32 15) none none = some 20 ∧
    pcAfter (.ja32 0xfffffffa) none none = some (-1) := by decide

theorem test_loads :
    loaded .little (.ldxw .r1 .r2 0) = some 0x0000000044332291 ∧
    loaded .big (.ldxw .r1 .r2 0) = some 0x0000000091223344 ∧
    loaded .little (.ldxh .r1 .r2 0) = some 0x0000000000002291 ∧
    loaded .big (.ldxh .r1 .r2 0) = some 0x0000000000009122 ∧
    loaded .little (.ldxb .r1 .r2 0) = some 0x0000000000000091 ∧
    loaded .big (.ldxb .r1 .r2 0) = some 0x0000000000000091 ∧
    loaded .little (.ldxdw .r1 .r2 0) = some 0x8877665544332291 ∧
    loaded .big (.ldxdw .r1 .r2 0) = some 0x9122334455667788 ∧
    loaded .little (.ldxsw .r1 .r2 0) = some 0x0000000044332291 ∧
    loaded .big (.ldxsw .r1 .r2 0) = some 0xffffffff91223344 ∧
    loaded .little (.ldxsh .r1 .r2 0) = some 0x0000000000002291 ∧
    loaded .big (.ldxsh .r1 .r2 0) = some 0xffffffffffff9122 ∧
    loaded .little (.ldxsb .r1 .r2 0) = some 0xffffffffffffff91 ∧
    loaded .big (.ldxsb .r1 .r2 0) = some 0xffffffffffffff91 := by decide

theorem test_stores_of_immediates :
    stored .little (.stw .r1 8 0xfffffffe) = cells 0x1008 [0xfe, 0xff, 0xff, 0xff] ∧
    stored .little (.sth .r1 8 0xfffffffe) = cells 0x1008 [0xfe, 0xff] ∧
    stored .little (.stb .r1 8 0xfffffffe) = cells 0x1008 [0xfe] ∧
    stored .little (.stdw .r1 8 0xfffffffe) = cells 0x1008 [0xfe, 0xff, 0xff, 0xff, 0xff, 0xff, 0xff, 0xff] := by decide

theorem test_stores_of_registers :
    stored .little (.stxw .r1 .r2 0xfff8) = cells 0x0ff8 [0x88, 0x77, 0x66, 0x55] ∧
    stored .big (.stxw .r1 .r2 0xfff8) = cells 0x0ff8 [0x55, 0x66, 0x77, 0x88] ∧
    stored .little (.stxh .r1 .r2 0xfff8) = cells 0x0ff8 [0x88, 0x77] ∧
    stored .big (.stxh .r1 .r2 0xfff8) = cells 0x0ff8 [0x77, 0x88] ∧
    stored .little (.stxb .r1 .r2 0xfff8) = cells 0x0ff8 [0x88] ∧
    stored .big (.stxb .r1 .r2 0xfff8) = cells 0x0ff8 [0x88] ∧
    stored .little (.stxdw .r1 .r2 0xfff8) = cells 0x0ff8 [0x88, 0x77, 0x66, 0x55, 0x44, 0x33, 0x22, 0x11] ∧
    stored .big (.stxdw .r1 .r2 0xfff8) = cells 0x0ff8 [0x11, 0x22, 0x33, 0x44, 0x55, 0x66, 0x77, 0x88] := by decide

theorem test_atomic_add :
    atomically 4 (.atomicAdd32 .r1 .r2 0) 0xfffffff0 0x0000000000000000 .r2 = some (0x0000000f, some 0x000000010000001f) ∧
    atomically 8 (.atomicAdd64 .r1 .r2 0) 0xfffffffffffffff0 0x0000000000000000 .r2 = some (0x000000010000000f, some 0x000000010000001f) := by decide

theorem test_atomic_fetch_add :
    atomically 4 (.atomicFetchAdd32 .r1 .r2 0) 0xfffffff0 0x0000000000000000 .r2 = some (0x0000000f, some 0x00000000fffffff0) ∧
    atomically 8 (.atomicFetchAdd64 .r1 .r2 0) 0xfffffffffffffff0 0x0000000000000000 .r2 = some (0x000000010000000f, some 0xfffffffffffffff0) := by decide

theorem test_atomic_or :
    atomically 4 (.atomicOr32 .r1 .r2 0) 0xfffffff0 0x0000000000000000 .r2 = some (0xffffffff, some 0x000000010000001f) ∧
    atomically 8 (.atomicOr64 .r1 .r2 0) 0xfffffffffffffff0 0x0000000000000000 .r2 = some (0xffffffffffffffff, some 0x000000010000001f) := by decide

theorem test_atomic_fetch_or :
    atomically 4 (.atomicFetchOr32 .r1 .r2 0) 0xfffffff0 0x0000000000000000 .r2 = some (0xffffffff, some 0x00000000fffffff0) ∧
    atomically 8 (.atomicFetchOr64 .r1 .r2 0) 0xfffffffffffffff0 0x0000000000000000 .r2 = some (0xffffffffffffffff, some 0xfffffffffffffff0) := by decide

theorem test_atomic_and :
    atomically 4 (.atomicAnd32 .r1 .r2 0) 0xfffffff0 0x0000000000000000 .r2 = some (0x00000010, some 0x000000010000001f) ∧
    atomically 8 (.atomicAnd64 .r1 .r2 0) 0xfffffffffffffff0 0x0000000000000000 .r2 = some (0x0000000100000010, some 0x000000010000001f) := by decide

theorem test_atomic_fetch_and :
    atomically 4 (.atomicFetchAnd32 .r1 .r2 0) 0xfffffff0 0x0000000000000000 .r2 = some (0x00000010, some 0x00000000fffffff0) ∧
    atomically 8 (.atomicFetchAnd64 .r1 .r2 0) 0xfffffffffffffff0 0x0000000000000000 .r2 = some (0x0000000100000010, some 0xfffffffffffffff0) := by decide

theorem test_atomic_xor :
    atomically 4 (.atomicXor32 .r1 .r2 0) 0xfffffff0 0x0000000000000000 .r2 = some (0xffffffef, some 0x000000010000001f) ∧
    atomically 8 (.atomicXor64 .r1 .r2 0) 0xfffffffffffffff0 0x0000000000000000 .r2 = some (0xfffffffeffffffef, some 0x000000010000001f) := by decide

theorem test_atomic_fetch_xor :
    atomically 4 (.atomicFetchXor32 .r1 .r2 0) 0xfffffff0 0x0000000000000000 .r2 = some (0xffffffef, some 0x00000000fffffff0) ∧
    atomically 8 (.atomicFetchXor64 .r1 .r2 0) 0xfffffffffffffff0 0x0000000000000000 .r2 = some (0xfffffffeffffffef, some 0xfffffffffffffff0) := by decide

theorem test_atomic_xchg :
    atomically 4 (.atomicXchg32 .r1 .r2 0) 0xfffffff0 0x0000000000000000 .r2 = some (0x0000001f, some 0x00000000fffffff0) ∧
    atomically 8 (.atomicXchg64 .r1 .r2 0) 0xfffffffffffffff0 0x0000000000000000 .r2 = some (0x000000010000001f, some 0xfffffffffffffff0) := by decide

theorem test_atomic_cmpxchg :
    atomically 4 (.atomicCmpxchg32 .r1 .r2 0) 0xfffffff0 0xfffffffffffffff0 .r0 = some (0x0000001f, some 0x00000000fffffff0) ∧
    atomically 4 (.atomicCmpxchg32 .r1 .r2 0) 0xfffffff0 0x0000000000000000 .r0 = some (0xfffffff0, some 0x00000000fffffff0) ∧
    atomically 8 (.atomicCmpxchg64 .r1 .r2 0) 0xfffffffffffffff0 0xfffffffffffffff0 .r0 = some (0x000000010000001f, some 0xfffffffffffffff0) ∧
    atomically 8 (.atomicCmpxchg64 .r1 .r2 0) 0xfffffffffffffff0 0x0000000000000000 .r0 = some (0xfffffffffffffff0, some 0xfffffffffffffff0) := by decide

/-- Addressing and faults of section 2.4: the region is 0x1000 to 0x1fff. -/
theorem test_load_faults :
    faultOf (.ldxw .r1 .r2 0) (at4 (bench .little true) none none (some 0x1001) []) = some (.misaligned 0x1001 4) ∧
    faultOf (.ldxdw .r1 .r2 0) (at4 (bench .little true) none none (some 0x1004) []) = some (.misaligned 0x1004 8) ∧
    faultOf (.ldxw .r1 .r2 0) (at4 (bench .little true) none none (some 0xffe) []) = some (.memFault 0xffe 4 .read) ∧
    faultOf (.ldxw .r1 .r2 0) (at4 (bench .little true) none none (some 0x1ffe) []) = some (.memFault 0x1ffe 4 .read) ∧
    faultOf (.ldxw .r1 .r2 0) (at4 (bench .little true) none none none []) = some (.uninitRegister .r2) := by decide

theorem test_store_wraps_and_faults :
    faultOf (.stxb .r1 .r2 0xffff) (at4 (bench .little true) none (some 0) (some 5) []) =
      some (.memFault 0xffffffffffffffff 1 .write) := by decide

theorem test_load_with_negative_offset :
    (after (.ldxb .r1 .r2 0xfffc) (at4 (bench .little true) none none (some 0x1004) (cells 0x1000 [0x91]))).bind
      (fun t => t.reg .r1) = some 0x91 := by decide

/-- Corner cases of section 2.5. -/
theorem test_atomic_alignment :
    faultOf (.atomicAdd64 .r1 .r2 0) (at4 (bench .little false) none (some 0x7ff4) (some 1) []) =
      some (.misaligned 0x7ff4 8) ∧
    (after (.atomicAdd32 .r1 .r2 0) (at4 (bench .little false) none (some 0x7ff4) (some 1)
      (cells 0x7ff4 [5, 0, 0, 0]))).map State.mem = some (cells 0x7ff4 [6, 0, 0, 0]) := by decide

theorem test_fetch_add_with_one_register :
    (after (.atomicFetchAdd64 .r1 .r1 0) (at4 (bench .little true) none (some 0x7ff8) none
      (cells 0x7ff8 [5, 0, 0, 0, 0, 0, 0, 0]))).map (fun t => (t.mem, t.reg .r1)) =
      some (cells 0x7ff8 [0xfd, 0x7f, 0, 0, 0, 0, 0, 0], some 5) := by decide

theorem test_cmpxchg_compares_low_half :
    (after (.atomicCmpxchg32 .r1 .r2 0) (at4 (bench .little true) (some 0xaaaaaaaa00000005) (some 0x1000) (some 9)
      (cells 0x1000 [5, 0, 0, 0]))).map (fun t => (t.mem, t.reg .r0)) =
      some (cells 0x1000 [9, 0, 0, 0], some 5) := by decide

/-- Section 2.6, and rules R366 to R371 with the bench's platform functions. -/
theorem test_wide_immediates :
    r1After (.lddw .r1 0x89abcdef 0x01234567) none none = some 0x0123456789abcdef ∧
    r1After (.lddw .r1 0xffffffff 0) none none = some 0x00000000ffffffff ∧
    r1After (.lddw .r1 0 0xffffffff) none none = some 0xffffffff00000000 ∧
    r1After (.ldMapFd .r1 5) none none = some 0x5000 ∧
    r1After (.ldMapFdVal .r1 5 16) none none = some 0x5110 ∧
    r1After (.ldVarAddr .r1 3) none none = some 0x3000 ∧
    r1After (.ldCodeAddr .r1 9) none none = some 0x4000 ∧
    r1After (.ldMapIdx .r1 0xffffffff) none none = some 0x5000 ∧
    r1After (.ldMapIdxVal .r1 0xffffffff 0xffffffff) none none = some 0x50ff ∧
    pcAfter (.lddw .r1 0 0) none none = some 6 := by decide

theorem test_platform_faults :
    faultOf (.ldMapFd .r1 4) (at4 (bench .little true) none none none []) = some .platformFault ∧
    faultOf (.ldMapFdVal .r1 6 0) (at4 (bench .little true) none none none []) = some .platformFault ∧
    faultOf (.callHelper 8) (at4 (bench .little true) none none none []) = some .platformFault ∧
    faultOf (.callHelper 9) (at4 (bench .little true) none none none []) = some (.unknownHelper 9) := by decide

/-- R247: the result in `R0`, the helper's memory, no value in `R1` to `R5`. -/
theorem test_call_helper :
    (after (.callHelper 7) (at4 (bench .little true) none (some 1) (some 2) [])).map
      (fun t => (t.reg .r0, t.reg .r1, t.reg .r10, t.pc)) = some (some 0x2a, none, some 0x8000, 5) ∧
    (after (.callHelper 7) (at4 (bench .little true) none (some 1) (some 2) [])).map State.mem =
      some [(0x1000, 0xaa)] := by decide

/-- R246: a helper is a function of memory too; helper 10 looks at the byte at 0x1800. -/
theorem test_helper_reads_memory :
    (after (.callHelper 10) (at4 (bench .little true) none none none [(0x1800, 1)])).bind (fun t => t.reg .r0) =
      some 0x11 ∧
    (after (.callHelper 10) (at4 (bench .little true) none none none [(0x1800, 2)])).bind (fun t => t.reg .r0) =
      some 0x22 ∧
    faultOf (.callHelper 10) (at4 (bench .little true) none none none [(0x1800, 3)]) = some (.unknownHelper 10) := by
  decide

theorem test_call_btf :
    (after (.callBtf 2 0x63) (at4 (bench .little true) none (some 1) (some 2) [])).map
      (fun t => (t.reg .r0, t.reg .r1, t.pc)) = some (some 0x2b, none, 5) := by decide

/-- Step 3 of program P4. -/
theorem test_call_local :
    (after (.callLocal 2) { at4 (bench .little true) none (some 0x15) none [] with pc := 2 }).map
      (fun t => (t.pc, t.frames.length, t.reg .r1, t.reg .r6, t.reg .r10)) =
      some (5, 1, some 0x15, none, some 0x7e00) := by decide

/-- A state in a called function, `R6` of the caller 100 and the return slot 3. -/
def called : State :=
  { at4 (bench .little true) (some 0x2a) (some 0x15) none [] with
    pc := 8
    frames := [⟨3, some 100, none, none, none⟩]
    regs := ⟨some 0x2a, some 0x15, none, none, none, none, none, none, none, none, some 0x7e00⟩
    draws := [(0x7e00, 1)]
    nextDraw := 2 }

/-- Steps 7 and 9 of program P4. -/
theorem test_exit :
    (after .exit called).map (fun t => (t.pc, t.frames.length, t.reg .r0, t.reg .r1)) = some (3, 0, some 0x2a, none) ∧
    (after .exit called).map (fun t => (t.reg .r6, t.reg .r10)) = some (some 100, some 0x8000) ∧
    (after .exit (at4 (bench .little true) (some 0x8e) none none [])).map State.status = some (.final 0x8e) ∧
    faultOf .exit (at4 (bench .little true) none none none []) = some (.uninitRegister .r0) := by decide

/-- R378: the legacy packet loads are refused. -/
theorem test_packet_loads :
    exec (.ldabsw 14) (at4 (bench .little true) none none none []) = .refused (.unmodelled 4) ∧
    exec (.ldindb .r2 14) (at4 (bench .little true) none none none []) = .refused (.unmodelled 4) := ⟨rfl, rfl⟩

/-- The parameters of the spec's examples are a platform that has done what R444 asks. -/
theorem test_default_platform_valid : PlatformValid Platform.default := by
  refine ⟨by decide, by decide, by decide, ?_, ?_, ?_⟩ <;> simp [usedTops, Platform.default, stacksApart]

/-! ## Programs of section 3: single steps and short runs -/

/-- A program of given words at the spec's start state, on a little-endian host. -/
def program (ws : List (BitVec 64)) : State :=
  State.runStart Platform.default (ws.map (Slot.ofWord .little)) [] []

/-- P6: the jump into the middle of a wide instruction. -/
theorem test_jump_into_wide :
    (observeRun 2 (program [0x0000000000010005, 0x0000009500000118, 0x0000000700000000, 0x95])).map State.status =
      some (.fault (.badJumpTarget 2)) := by decide

/-- P7: reading a register that nothing has written. -/
theorem test_unwritten_register :
    (observeRun 2 (program [0x00000000000010bf, 0x000000000000200f, 0x95])).map State.status =
      some (.fault (.uninitRegister .r2)) := by decide

/-- `withFetchWord` makes the very next step after reset run the given instruction. -/
theorem test_with_fetch_word :
    step (State.reset.withFetchWord 64 0x1122334400000107) =
      .next ((State.reset.withFetchWord 64 0x1122334400000107).updated .r1 0x11224344 1) := by rfl

/-! ## Witnesses: states and operands that meet the hypotheses of the statements of Obligations.lean -/

/-- A running state with all registers holding values: `R1` = 0x1010, `R2` = 5, `R0` = 7, and 16 stored bytes. -/
def full (e : Endian) (strict : Bool) : State :=
  { at4 (bench e strict) none none none (cells 0x1010 [1, 2, 3, 4, 5, 6, 7, 8, 9, 10, 11, 12, 13, 14, 15, 16]) with
    regs := ⟨some 7, some 0x1010, some 5, some 3, some 4, some 5, some 6, some 7, some 8, some 9, some 0x8000⟩ }

/-- `full` with a program text in which the next step fetches the given word at slot 4. -/
def fetching (w : BitVec 64) : State :=
  { full .little true with
    prog := List.replicate 4 (Slot.ofWord .little 0x95) ++ [Slot.ofWord .little w, Slot.ofWord .little 0] }

theorem witness_DecodingBytesUndoesEncoding :
    (Instr.add64Imm .r9 0x80000000).wellFormed = true ∧ (Instr.lddw .r0 1 2).wellFormed = true := by decide

theorem witness_EncodingUndoesDecoding :
    decodeWords 0x1122334400000107 none = .ok (.add64Imm .r1 0x11223344) ∧
    decodeWords 0x0000000100000118 (some 0) = .ok (.lddw .r1 1 0) := ⟨rfl, rfl⟩

/-- An instruction of a listed group, one of a group that a listed one includes, and one of neither. -/
theorem witness_GroupsFilterDecoding :
    decodeSlots .little (Slot.ofWord .little 0x95) none = .ok .exit ∧
    (Instr.exit.group ∈ Platform.default.groups) ∧
    (Instr.exit.group = .base32 ∧ Group.base64 ∈ (bench .little true).groups ∧
      Instr.exit.group ∉ (bench .little true).groups) ∧
    decodeSlots .little (Slot.ofWord .little 0x0000000e00000020) none = .ok (.ldabsw 14) ∧
    (Instr.ldabsw 14).group ∉ Platform.default.groups ∧ ¬(Instr.ldabsw 14).group = .base32 ∧
    ¬(Instr.ldabsw 14).group = .atomic32 ∧ ¬(Instr.ldabsw 14).group = .divmul32 ∧
    (Instr.atomicAdd32 .r1 .r2 0).group = .atomic32 ∧ Group.atomic64 ∈ (bench .little true).groups ∧
    (Instr.div32Imm .r1 2).group = .divmul32 ∧ Group.divmul64 ∈ (bench .little true).groups :=
  ⟨rfl, by decide, by decide, rfl, by decide, by decide, by decide, by decide, rfl, by decide, rfl, by decide⟩

theorem witness_StepRunsDecodedInstruction :
    let s := fetching 0x1122334400000107
    s.status = .running ∧ s.isTarget s.pc = true ∧
    decodeFor s.plat (s.slotAt s.pc.toNat) (s.slotAt? (s.pc.toNat + 1)) = .ok (.add64Imm .r1 0x11223344) :=
  ⟨rfl, by decide, rfl⟩

theorem witness_StepFaultsAtFetchAndDecode :
    { full .little true with status := .final 0 }.status ≠ .running ∧
    (full .little true).status = .running ∧ (full .little true).isTarget (full .little true).pc = false ∧
    (fetching 0).isTarget (fetching 0).pc = true ∧
    decodeFor (fetching 0).plat ((fetching 0).slotAt (fetching 0).pc.toNat)
      ((fetching 0).slotAt? ((fetching 0).pc.toNat + 1)) = .error .unknownOpcode :=
  ⟨by decide, rfl, by decide, by decide, rfl⟩

/-- The last slot below 0 and the first at N; the first and the last pair of slots. -/
theorem witness_TargetsAreFirstSlots :
    let s := fetching 0
    ((-1 : Int) < 0) ∧ ((s.prog.length : Int) ≤ 6) ∧ 0 < s.prog.length ∧ 0 + 1 < s.prog.length ∧
    4 + 1 < s.prog.length := by decide

/-- Register operands that hold values, the two registers different and the same: for the statements AddSubMulResults,
UnsignedDivisionResults, SignedDivisionResults, BitwiseResults, ShiftResults, MoveAndNegResults, ConditionalJumps64 and
ConditionalJumps32. -/
theorem witness_AddSubMulResults :
    (full .little true).reg .r1 = some 0x1010 ∧ (full .little true).reg .r2 = some 5 ∧
    (full .big true).reg .r10 = some 0x8000 := by decide

theorem witness_UnsignedDivisionResults :
    (full .little true).reg .r1 = some 0x1010 ∧ (full .little true).reg .r2 = some 5 := by decide

theorem witness_SignedDivisionResults :
    (full .little true).reg .r1 = some 0x1010 ∧ (full .little true).reg .r2 = some 5 := by decide

theorem witness_SignedDivisionOverflowWraps :
    let s := at4 (bench .little true) none (some 0xffffffff80000000) (some 0x00000000ffffffff) []
    let u := at4 (bench .little true) none (some 0x8000000000000000) (some 0xffffffffffffffff) []
    s.reg .r1 = some 0xffffffff80000000 ∧ s.reg .r2 = some 0x00000000ffffffff ∧
    (0xffffffff80000000 : Word).toNat % 2 ^ 32 = 2 ^ 31 ∧ (0x00000000ffffffff : Word).toNat % 2 ^ 32 = 2 ^ 32 - 1 ∧
    u.reg .r1 = some 0x8000000000000000 ∧ u.reg .r2 = some 0xffffffffffffffff := by decide

theorem witness_BitwiseResults :
    (full .little true).reg .r1 = some 0x1010 ∧ (full .little true).reg .r2 = some 5 := by decide

theorem witness_ShiftResults :
    (full .little true).reg .r1 = some 0x1010 ∧ (full .little true).reg .r2 = some 5 := by decide

/-- `dst` (here `R3`) need not hold a value. -/
theorem witness_MoveAndNegResults :
    (at4 (bench .little true) none none (some 5) []).reg .r2 = some 5 ∧
    (at4 (bench .little true) none none (some 5) []).reg .r3 = none := by decide

theorem witness_SwapResults :
    (full .little true).reg .r1 = some 0x1010 ∧ (full .little true).plat.endian = .little ∧
    (full .big true).reg .r1 = some 0x1010 ∧ (full .big true).plat.endian = .big := by decide

theorem witness_SwapTwiceTruncates : (full .little true).reg .r1 = some 0x1010 := by decide

theorem witness_ThirtyTwoBitResultsZeroTheUpperHalf :
    classOf (.sub32Imm .r1 0x1011) = 4 ∧ (Instr.sub32Imm .r1 0x1011).group ≠ .base64 ∧
    ∃ t, exec (.sub32Imm .r1 0x1011) (full .little true) = .next t := ⟨by decide, by decide, _, rfl⟩

theorem witness_ConditionalJumps64 :
    (full .little true).reg .r1 = some 0x1010 ∧ (full .little true).reg .r2 = some 5 := by decide

theorem witness_ConditionalJumps32 :
    (full .little true).reg .r1 = some 0x1010 ∧ (full .little true).reg .r2 = some 5 := by decide

/-- A state with the given number of frames on the call stack. -/
def nested (n : Nat) : State :=
  { full .little true with
    frames := (List.range n).map fun k => ⟨(k : Nat), none, none, none, none⟩
    regs := { (full .little true).regs with r10 := some (topOf Platform.default.frameTops n) }
    draws := (List.range n).map fun k => (topOf Platform.default.frameTops (n - k), n - k)
    nextDraw := n + 1 }

/-- The deepest call that the limit allows, and the first it does not. -/
theorem witness_LocalCallEntersFrame :
    (nested 6).frames.length + 2 = (nested 6).plat.maxCallDepth ∧
    (nested 6).inStack ((nested 6).frameTop ((nested 6).frames.length + 1)) 0x7200 1 = false ∧
    (nested 6).inStack ((nested 6).frameTop ((nested 6).frames.length + 1)) 0x6fff 1 = false ∧
    (nested 7).frames.length + 2 > (nested 7).plat.maxCallDepth := by decide

/-- The first and the last byte of the new frame's stack. -/
theorem witness_FreshStackIsUnwritten :
    (∃ t, exec (.callLocal 5) (nested 6) = .next t) ∧
    (nested 6).inStack ((nested 6).frameTop ((nested 6).frames.length + 1)) 0x7000 1 = true ∧
    (nested 6).inStack ((nested 6).frameTop ((nested 6).frames.length + 1)) 0x71ff 1 = true :=
  ⟨⟨_, rfl⟩, by decide, by decide⟩

theorem witness_ExitReturnsToCaller :
    called.reg .r0 = some 0x2a ∧ called.frames = ⟨3, some 100, none, none, none⟩ :: [] := by decide

theorem witness_ExitEndsTheRun :
    (full .little true).reg .r0 = some 7 ∧ (full .little true).frames = [] := by decide

theorem witness_CallThenExitRestores :
    ∃ t, exec (.callLocal 5) (full .little true) = .next t ∧
      { t with regs := { t.regs with r0 := some 3 } }.frames = t.frames ∧
      { t with regs := { t.regs with r0 := some 3 } }.plat = (full .little true).plat ∧
      { t with regs := { t.regs with r0 := some 3 } }.reg .r0 = some 3 := ⟨_, rfl, rfl, rfl, rfl⟩

theorem witness_PlatformCallResults :
    (full .little true).platformCall (.static (7 : BitVec 32).toInt) = some (.returns 0x2a [(0x1000, 0xaa)]) ∧
    (full .little true).platformCall (.btf (0x63 : BitVec 32).toInt (2 : BitVec 16).toInt) =
      some (.returns 0x2b []) := by decide

theorem witness_UnknownHelperFaults :
    (full .little true).platformCall (.static (9 : BitVec 32).toInt) = none ∧
    (full .little true).platformCall (.btf (0x63 : BitVec 32).toInt (3 : BitVec 16).toInt) = none := by decide

/-- An aligned access of each width at the region's last place, and a misaligned one that need not be aligned. -/
theorem witness_LoadResults :
    (full .little true).reg .r1 = some 0x1010 ∧
    (full .little true).accessible (effAddr 0x1010 0xfec) 4 .read ∧
    (full .little true).accessible (effAddr 0x1010 0xfee) 2 .read ∧
    (full .little true).accessible (effAddr 0x1010 0xfef) 1 .read ∧
    (full .little true).accessible (effAddr 0x1010 0xfe8) 8 .read ∧
    (full .little false).accessible (effAddr 0x1010 1) 8 .read := by
  unfold State.accessible; decide

theorem witness_ValueAtIsTheBytes : (8 ≤ 8) ∧ (0 < 8) ∧ (7 < 8) := by decide

theorem witness_StoreResults :
    (full .little true).reg .r1 = some 0x1010 ∧ (full .little true).reg .r2 = some 5 ∧
    (full .little true).accessible (effAddr 0x1010 0xfff0) 4 .write ∧
    (full .little true).accessible (effAddr 0x1010 0xfff0) 2 .write ∧
    (full .little true).accessible (effAddr 0x1010 0xfff0) 1 .write ∧
    (full .big true).accessible (effAddr 0x1010 0xfff0) 8 .write := by
  unfold State.accessible; decide

theorem witness_AtomicResults :
    (full .little true).reg .r1 = some 0x1010 ∧ (full .little true).reg .r2 = some 5 ∧
    (full .little true).accessible (effAddr 0x1010 4) 4 .atomic ∧
    (full .little false).accessible (effAddr 0x1010 8) 8 .atomic := by
  unfold State.accessible; decide

/-- Two registers and one and the same register. -/
theorem witness_AtomicFetchResults :
    (full .big true).reg .r1 = some 0x1010 ∧ (full .big true).reg .r2 = some 5 ∧
    (full .big true).accessible (effAddr 0x1010 4) 4 .atomic ∧
    (full .big false).accessible (effAddr 0x1010 8) 8 .atomic := by
  unfold State.accessible; decide

theorem witness_CompareExchangeResults :
    (full .little true).reg .r1 = some 0x1010 ∧ (full .little true).reg .r2 = some 5 ∧
    (full .little true).reg .r0 = some 7 ∧
    (full .little true).accessible (effAddr 0x1010 0) 4 .atomic ∧
    (full .little true).accessible (effAddr 0x1010 0) 8 .atomic := by
  unfold State.accessible; decide

theorem witness_LoadAfterStoreReturnsValue :
    (full .little true).reg .r1 = some 0x1010 ∧ (full .little true).reg .r2 = some 5 ∧
    (∃ t, exec (.stxb .r1 .r2 3) (full .little true) = .next t) ∧
    (full .little true).admits (effAddr 0x1010 3) 1 .read = true ∧
    (∃ t, exec (.stxh .r1 .r2 2) (full .little true) = .next t) ∧
    (full .little true).admits (effAddr 0x1010 2) 2 .read = true ∧
    (∃ t, exec (.stxw .r1 .r2 4) (full .little true) = .next t) ∧
    (full .little true).admits (effAddr 0x1010 4) 4 .read = true ∧
    (∃ t, exec (.stxdw .r1 .r2 8) (full .little true) = .next t) ∧
    (full .little true).admits (effAddr 0x1010 8) 8 .read = true :=
  ⟨by decide, by decide, ⟨_, rfl⟩, by decide, ⟨_, rfl⟩, by decide, ⟨_, rfl⟩, by decide, ⟨_, rfl⟩, by decide⟩

theorem witness_NarrowReadOfWideStore :
    (full .little true).plat.endian = .little ∧ (full .big true).plat.endian = .big := by decide

/-- An access that is not admitted, one that is admitted and misaligned, one that goes through. -/
theorem witness_AccessFaultsInOrder :
    let s := full .little true
    accessOf (.ldxdw .r3 .r1 4) = some (.r1, 4, 8, .read) ∧ s.reg .r1 = some 0x1010 ∧
    (∀ r ∈ readsOf (.ldxdw .r3 .r1 4), s.reg r ≠ none) ∧
    s.admits (effAddr 0x1010 0xfef) 8 .read = false ∧
    s.admits (effAddr 0x1010 4) 8 .read = true ∧ (effAddr 0x1010 4).toNat % 8 ≠ 0 ∧ s.plat.alignStrict = true ∧
    (s.admits (effAddr 0x1010 8) 8 .read = true ∧ (effAddr 0x1010 8).toNat % 8 = 0) := by decide

theorem witness_AccessFaultsInOrder_atomic :
    let s := full .little false
    accessOf (.atomicCmpxchg64 .r1 .r2 4) = some (.r1, 4, 8, .atomic) ∧ s.reg .r1 = some 0x1010 ∧
    (∀ r ∈ readsOf (.atomicCmpxchg64 .r1 .r2 4), s.reg r ≠ none) ∧
    s.admits (effAddr 0x1010 4) 8 .atomic = true ∧ (effAddr 0x1010 4).toNat % 8 ≠ 0 := by decide

theorem witness_WideImmediateResults :
    let s := full .little true
    s.plat.mapByFd.lookup (5 : BitVec 32).toInt = some 0x5000 ∧ s.plat.varAddr.lookup (3 : BitVec 32).toInt = some 0x3000 ∧
    s.plat.codeAddr.lookup (s.pc, (9 : BitVec 32).toInt) = some 0x4000 ∧
    s.plat.mapByIdx.lookup (0xffffffff : BitVec 32).toInt = some 0x5000 ∧ s.plat.mapVal.lookup 0x5000 = some 0x5100 := by
  decide

theorem witness_PlatformFaults :
    let s := full .little true
    s.plat.mapByFd.lookup (4 : BitVec 32).toInt = none ∧ s.plat.varAddr.lookup (4 : BitVec 32).toInt = none ∧
    s.plat.codeAddr.lookup (s.pc, (8 : BitVec 32).toInt) = none ∧
    s.plat.mapByIdx.lookup (0 : BitVec 32).toInt = none ∧
    s.plat.mapByFd.lookup (6 : BitVec 32).toInt = some 0x6000 ∧
    s.plat.mapByIdx.lookup (1 : BitVec 32).toInt = some 0x6000 ∧ s.plat.mapVal.lookup 0x6000 = none ∧
    s.platformCall (.static (8 : BitVec 32).toInt) = some .fails ∧
    s.platformCall (.btf (0x64 : BitVec 32).toInt (2 : BitVec 16).toInt) = some .fails := by decide

/-- A slot that holds a packet load, and a running state whose next step is refused. -/
theorem witness_PacketLoadsAreRefused :
    decodeSlots .little (Slot.ofWord .little 0x0000000e00000020) none = .ok (.ldabsw 14) ∧
    (Instr.ldabsw 14).group = .packet ∧ (fetching 0x0000000e00000020).status = .running ∧
    step (fetching 0x0000000e00000020) = .refused (.unmodelled 4) := ⟨rfl, rfl, rfl, rfl⟩

/-- The first, the second and the third register read. -/
theorem witness_UnwrittenRegisterFaults :
    readsOf (.atomicCmpxchg64 .r1 .r2 0) = [] ++ .r1 :: [.r2, .r0] ∧
    (at4 (bench .little true) none none none []).reg .r1 = none ∧
    readsOf (.atomicCmpxchg64 .r1 .r2 0) = [.r1] ++ .r2 :: [.r0] ∧
    (∀ q ∈ [Reg.r1], (at4 (bench .little true) none (some 1) none []).reg q ≠ none) ∧
    (at4 (bench .little true) none (some 1) none []).reg .r2 = none ∧
    readsOf (.atomicCmpxchg64 .r1 .r2 0) = [.r1, .r2] ++ .r0 :: [] ∧
    (∀ q ∈ [Reg.r1, .r2], (at4 (bench .little true) none (some 1) (some 2) []).reg q ≠ none) ∧
    (at4 (bench .little true) none (some 1) (some 2) []).reg .r0 = none := by decide

theorem witness_RegisterFrame :
    (∃ t, exec (.atomicFetchAdd32 .r1 .r2 4) (full .little true) = .next t) ∧
    Reg.r1 ∉ writesOf (.atomicFetchAdd32 .r1 .r2 4) := ⟨⟨_, rfl⟩, by decide⟩

/-- A store, with the bytes just before and just after its access, and an instruction that accesses no memory. -/
theorem witness_MemoryFrame :
    (∃ t, exec (.stxw .r1 .r2 4) (full .little true) = .next t) ∧ isCallOrExit (.stxw .r1 .r2 4) = false ∧
    accessOf (.stxw .r1 .r2 4) = some (.r1, 4, 4, .write) ∧ (full .little true).reg .r1 = some 0x1010 ∧
    0x1013 < (effAddr 0x1010 4).toNat ∧ (effAddr 0x1010 4).toNat + 4 ≤ 0x1018 ∧
    (∃ t, exec (.neg64 .r1) (full .little true) = .next t) ∧ isCallOrExit (.neg64 .r1) = false ∧
    accessOf (.neg64 .r1) = none :=
  ⟨⟨_, rfl⟩, by decide, rfl, rfl, by decide, by decide, ⟨_, rfl⟩, by decide, rfl⟩

theorem witness_OtherStateFrame :
    (∃ t, exec (.jgt64Reg .r1 .r2 7) (full .little true) = .next t) ∧
    isCallOrExit (.jgt64Reg .r1 .r2 7) = false := ⟨⟨_, rfl⟩, by decide⟩

theorem witness_PcAdvancesBySlots :
    (∃ t, exec (.lddw .r1 1 2) (full .little true) = .next t) ∧ classOf (.lddw .r1 1 2) ≠ 5 ∧
    classOf (.lddw .r1 1 2) ≠ 6 := ⟨⟨_, rfl⟩, by decide, by decide⟩

theorem witness_HostOrderIrrelevant :
    accessOf (.bswap32 .r1) = none ∧ opcodeOf (.bswap32 .r1) ≠ 0xd4 ∧ opcodeOf (.bswap32 .r1) ≠ 0xdc ∧
    ∃ t, exec (.bswap32 .r1) (full .little true) = .next t := ⟨rfl, by decide, by decide, _, rfl⟩

theorem witness_StepKeepsParameters : ∃ t, step (fetching 0x1122334400000107) = .next t := ⟨_, rfl⟩

theorem witness_FramePointerMovesOnlyWithFrames :
    ∃ t, step (fetching 0x1122334400000107) = .next t ∧ t.frames = (fetching 0x1122334400000107).frames := ⟨_, rfl, rfl⟩

/-- A step that leaves the call stack, one that pushes and one that pops. -/
theorem witness_CallStackDiscipline :
    (∃ t, step (fetching 0x1122334400000107) = .next t) ∧ (∃ t, step (fetching 0x0000000500001085) = .next t) ∧
    (∃ t, step { called with prog := List.replicate 9 (Slot.ofWord .little 0x95) } = .next t) :=
  ⟨⟨_, rfl⟩, ⟨_, rfl⟩, ⟨_, rfl⟩⟩

theorem witness_RunEndsOnlyByExit :
    (∃ t, step (fetching 0x1122334400000107) = .next t) ∧ (∃ t, step (fetching 0x95) = .next t) := ⟨⟨_, rfl⟩, ⟨_, rfl⟩⟩

theorem full_inv (w : BitVec 64) : (fetching w).Inv :=
  ⟨show Memory.wf (full .little true).mem by decide, rfl, .inl rfl,
    show [1, 0].Pairwise fun m n => n < m by decide⟩

/-- A step of each kind from a state with the invariant. -/
theorem witness_InvariantKeptByStep :
    (fetching 0x0000000500001085).Inv ∧ (∃ t, step (fetching 0x0000000500001085) = .next t) ∧
    (fetching 0x000000000008217b).Inv ∧ ∃ t, step (fetching 0x000000000008217b) = .next t :=
  ⟨full_inv _, ⟨_, rfl⟩, full_inv _, ⟨_, rfl⟩⟩

theorem witness_InvariantHoldsAtStart : Memory.wf (full .little true).mem := by decide

/-- The first and the last byte of a live frame's stack, and the addresses next to the shared range. -/
theorem witness_OtherAgentsTouchSharedMemoryOnly :
    (full .little true).inLiveStack 0x7e00 1 = true ∧ (full .little true).inLiveStack 0x7fff 1 = true ∧
    (∀ r ∈ (full .little true).plat.shared, ¬(r.1 ≤ 0x17ff ∧ 0x17ff < r.1 + r.2)) ∧
    (∀ r ∈ (full .little true).plat.shared, ¬(r.1 ≤ 0x1810 ∧ 0x1810 < r.1 + r.2)) := by decide

/-- Another agent's write to a shared byte arrives; one to an address that is not shared does not (R66). -/
theorem test_other_agents :
    { full .little true with mem := [], env := [[(0x1800, 1), (0x1810, 2)], [(0x1801, 3)]] }.envTurn.mem =
      [(0x1800, 1)] := by decide

/-- The two-slot program `r0 = 7; exit` at the start state of the default platform: all that R444 asks has been done. -/
theorem test_ready_to_start : (program [0x00000007000000b7, 0x95]).readyToStart := by
  refine ⟨by decide, test_default_platform_valid, fun n i h => ?_, [], [], by decide, rfl⟩
  match n with
  | 0 => cases h.2; simp [namesResolved]
  | 1 => cases h.2; simp [namesResolved]
  | n + 2 =>
    have h := h.1
    simp [State.isTarget, program, State.runStart, show ((n : Int) + 2).toNat = n + 2 by omega, startsFrom] at h

/-- The stack of the first callee, before its call: its first byte, its last byte and a range that only touches it. -/
theorem witness_StackOfADeadFrameIsNotAdmitted :
    PlatformValid (program []).plat ∧ (program []).frames.length < 1 ∧ 1 < (program []).plat.maxCallDepth ∧
    ((program []).frameTop 1).toNat = 0x7e00 ∧ (program []).plat.stackSize = 512 ∧
    (0x7c00 < 0x7e00 ∧ 0x7e00 < 0x7c00 + 1 + 512) ∧ (0x7dff < 0x7e00 ∧ 0x7e00 < 0x7dff + 1 + 512) ∧
    (0x7bf9 < 0x7e00 ∧ 0x7e00 < 0x7bf9 + 8 + 512) :=
  ⟨test_default_platform_valid, by decide, by decide, rfl, rfl, by decide, by decide, by decide⟩

theorem witness_StartStateOfTheSpec : Memory.get (full .little true).mem 0x100f = none := by decide

theorem witness_FaultFreezesState : ∃ f, step (full .little true) = .fault f := ⟨_, rfl⟩

end Sys2Proof.Tests
end

section
/-! Proofs about the byte swaps (41_byteswap.md). Every swap is `swapForm f`. Two rules about `swapForm` say what it
answers when `f` is the identity and when `f` reverses the bytes of its operand. Each instruction follows one
of them; for the le and be swaps the host's byte order decides which. -/

namespace Sys2Proof.Machine

/-! ## The swaps as forms -/

theorem exec_le16 (d : Reg) (s : State) : exec (.le16 d) s = swapForm (toLittle s.plat.endian bswap16) d s := rfl
theorem exec_le32 (d : Reg) (s : State) : exec (.le32 d) s = swapForm (toLittle s.plat.endian bswap32) d s := rfl
theorem exec_le64 (d : Reg) (s : State) : exec (.le64 d) s = swapForm (toLittle s.plat.endian bswap64) d s := rfl
theorem exec_be16 (d : Reg) (s : State) : exec (.be16 d) s = swapForm (toBig s.plat.endian bswap16) d s := rfl
theorem exec_be32 (d : Reg) (s : State) : exec (.be32 d) s = swapForm (toBig s.plat.endian bswap32) d s := rfl
theorem exec_be64 (d : Reg) (s : State) : exec (.be64 d) s = swapForm (toBig s.plat.endian bswap64) d s := rfl
theorem exec_bswap16 (d : Reg) (s : State) : exec (.bswap16 d) s = swapForm bswap16 d s := rfl
theorem exec_bswap32 (d : Reg) (s : State) : exec (.bswap32 d) s = swapForm bswap32 d s := rfl
theorem exec_bswap64 (d : Reg) (s : State) : exec (.bswap64 d) s = swapForm bswap64 d s := rfl

@[simp] theorem toLittle_little {w : Nat} (f : BitVec w → BitVec w) : toLittle .little f = id := rfl
@[simp] theorem toLittle_big {w : Nat} (f : BitVec w → BitVec w) : toLittle .big f = f := rfl
@[simp] theorem toBig_little {w : Nat} (f : BitVec w → BitVec w) : toBig .little f = f := rfl
@[simp] theorem toBig_big {w : Nat} (f : BitVec w → BitVec w) : toBig .big f = id := rfl

theorem swapForm_some {w : Nat} (f : BitVec w → BitVec w) {d : Reg} {s : State} {a : Word} (h : s.reg d = some a) :
    swapForm f d s = .next (s.updated d ((f (a.setWidth w)).setWidth 64) 1) :=
  readReg_some h _

/-! ## Reversing the bytes of a value -/

/-- Byte `k` of `x`, for each `k` below `n`, is byte `n - 1 - k` of `v` (R15). -/
def HoldsReversed {u w : Nat} (n : Nat) (v : BitVec w) (x : BitVec u) : Prop :=
  ∀ k < n, x.extractLsb' (8 * k) 8 = v.extractLsb' (8 * (n - 1 - k)) 8

theorem reversedBytes_iff (n : Nat) (a r : Word) : reversedBytes n a r ↔ r.toNat < 2 ^ (8 * n) ∧ HoldsReversed n a r :=
  .rfl

theorem holdsReversed_one {w : Nat} (v : BitVec w) : HoldsReversed 1 v (v.extractLsb' 0 8) := by
  intro k hk
  obtain rfl : k = 0 := by omega
  simp

/-- The bytes taken so far move up one place, and the next byte of `v` goes below them. -/
theorem HoldsReversed.append {u w n : Nat} {v : BitVec w} {x : BitVec u} (h : HoldsReversed n v x) :
    HoldsReversed (n + 1) v (x ++ v.extractLsb' (8 * n) 8) := by
  intro k hk
  cases k with
  | zero => exact BitVec.extractLsb'_append_eq_right
  | succ k =>
    calc (x ++ v.extractLsb' (8 * n) 8).extractLsb' (8 * (k + 1)) 8
        = x.extractLsb' (8 * k) 8 := BitVec.extractLsb'_append_eq_of_le (by omega)
      _ = v.extractLsb' (8 * (n - 1 - k)) 8 := h k (by omega)
      _ = v.extractLsb' (8 * (n + 1 - 1 - (k + 1))) 8 := by rw [show n + 1 - 1 - (k + 1) = n - 1 - k by omega]

theorem bswap16_holdsReversed (v : BitVec 16) : HoldsReversed 2 v (bswap16 v) :=
  (holdsReversed_one v).append

theorem bswap32_holdsReversed (v : BitVec 32) : HoldsReversed 4 v (bswap32 v) :=
  (holdsReversed_one v).append.append.append

theorem bswap64_holdsReversed (v : BitVec 64) : HoldsReversed 8 v (bswap64 v) :=
  (holdsReversed_one v).append.append.append.append.append.append.append

/-- A byte reversal of the low `n` bytes is one in the whole word, before and after the zero extension. -/
theorem HoldsReversed.setWidth {n : Nat} {a : Word} {x : BitVec (8 * n)} (h : HoldsReversed n (a.setWidth (8 * n)) x)
    (hn : n ≤ 8) : HoldsReversed n a (x.setWidth 64) := by
  intro k hk
  calc (x.setWidth 64).extractLsb' (8 * k) 8
      = x.extractLsb' (8 * k) 8 := BitVec.extractLsb'_setWidth_of_le (by omega)
    _ = (a.setWidth (8 * n)).extractLsb' (8 * (n - 1 - k)) 8 := h k hk
    _ = a.extractLsb' (8 * (n - 1 - k)) 8 := BitVec.extractLsb'_setWidth_of_le (by omega)

/-! ## What a swap answers -/

section

variable {d : Reg} {s : State} {a : Word}

theorem swapForm_id_keptBytes (n : Nat) (h : s.reg d = some a) :
    ∃ r, keptBytes n a r ∧ swapForm (w := 8 * n) id d s = .next (s.updated d r 1) := by
  refine ⟨_, ?_, swapForm_some id h⟩
  have hlow : a.toNat % 2 ^ (8 * n) < 2 ^ 64 := (Nat.mod_le _ _).trans_lt a.isLt
  simpa [keptBytes] using hlow

theorem swapForm_reversedBytes (n : Nat) {f : BitVec (8 * n) → BitVec (8 * n)} (hf : ∀ v, HoldsReversed n v (f v))
    (hn : n ≤ 8) (h : s.reg d = some a) :
    ∃ r, reversedBytes n a r ∧ swapForm f d s = .next (s.updated d r 1) := by
  refine ⟨_, (reversedBytes_iff n a _).2 ⟨?_, (hf _).setWidth hn⟩, swapForm_some f h⟩
  rw [BitVec.toNat_setWidth]
  exact (Nat.mod_le _ _).trans_lt (f _).isLt

end

/-- Settles O16: with the host's order known, each swap is the form of the identity or of a byte reversal. -/
theorem swapResults : Obligations.SwapResults := by
  intro s d a h
  have keep16 := swapForm_id_keptBytes 2 h
  have keep32 := swapForm_id_keptBytes 4 h
  have keep64 := swapForm_id_keptBytes 8 h
  have rev16 := swapForm_reversedBytes 2 bswap16_holdsReversed (by decide) h
  have rev32 := swapForm_reversedBytes 4 bswap32_holdsReversed (by decide) h
  have rev64 := swapForm_reversedBytes 8 bswap64_holdsReversed (by decide) h
  refine ⟨fun hlittle => ?_, fun hbig => ?_, ?_⟩
  · simp only [exec_le16, exec_le32, exec_le64, exec_be16, exec_be32, exec_be64, hlittle, toLittle_little, toBig_little]
    exact ⟨keep16, keep32, keep64, rev16, rev32, rev64⟩
  · simp only [exec_le16, exec_le32, exec_le64, exec_be16, exec_be32, exec_be64, hbig, toLittle_big, toBig_big]
    exact ⟨rev16, rev32, rev64, keep16, keep32, keep64⟩
  · simp only [exec_bswap16, exec_bswap32, exec_bswap64]
    exact ⟨rev16, rev32, rev64⟩

end Sys2Proof.Machine
end

section
/-! What decodes is well formed (R28, R119). Every form of the decoder checks the register field that its row writes, so
the instruction it makes does not write `R10`. -/

namespace Sys2Proof

/-- What a part of the decoder answers, if it answers an instruction, is well formed. -/
def DecodesWellFormed (e : Except Illegal Instr) : Prop := ∀ i, e = .ok i → i.wellFormed = true

namespace DecodesWellFormed

theorem error (why : Illegal) : DecodesWellFormed (.error why) := fun _ h => by cases h

theorem ok {i : Instr} (h : i.wellFormed = true) : DecodesWellFormed (.ok i) := by
  intro j hj
  exact Except.ok.inj hj ▸ h

theorem ite {p : Prop} [Decidable p] {e e' : Except Illegal Instr} (h : DecodesWellFormed e)
    (h' : DecodesWellFormed e') : DecodesWellFormed (if p then e else e') := by
  split
  · exact h
  · exact h'

/-- A check of an unused field in front of a form. -/
theorem check {p : Prop} [Decidable p] {why : Illegal} {e : Except Illegal Instr} (h : DecodesWellFormed e) :
    DecodesWellFormed (if p then .error why else e) :=
  ite (error why) h

theorem readable {n : BitVec 4} {k : Reg → Except Illegal Instr} (h : ∀ r, DecodesWellFormed (k r)) :
    DecodesWellFormed (readable n k) := by
  unfold Sys2Proof.readable
  split
  · exact h _
  · exact error _

theorem writable {n : BitVec 4} {k : Reg → Except Illegal Instr}
    (h : ∀ r, r.isWritable = true → DecodesWellFormed (k r)) : DecodesWellFormed (writable n k) := by
  unfold Sys2Proof.writable
  split
  · split
    · exact h _ ‹_›
    · exact error _
  · exact error _

/-! ## The forms

The hypotheses say of the constructors of a form's rows that they are well formed when the register they write is
writable; for a constructor of the instruction set each of them is the identity. -/

theorem srcForm {f : Fields} {k : Reg → BitVec 32 → Instr} {x : Reg → Reg → Instr}
    (hk : ∀ d v, d.isWritable = true → (k d v).wellFormed = true := by exact fun _ _ => id)
    (hx : ∀ d r, d.isWritable = true → (x d r).wellFormed = true := by exact fun _ _ => id) :
    DecodesWellFormed (srcForm f k x) :=
  ite (check (writable fun d hd => readable fun r => ok (hx d r hd))) (check (writable fun d hd => ok (hk d _ hd)))

theorem aluForm {f : Fields} {k : Reg → BitVec 32 → Instr} {x : Reg → Reg → Instr}
    (hk : ∀ d v, d.isWritable = true → (k d v).wellFormed = true := by exact fun _ _ => id)
    (hx : ∀ d r, d.isWritable = true → (x d r).wellFormed = true := by exact fun _ _ => id) :
    DecodesWellFormed (aluForm f k x) :=
  check (srcForm hk hx)

theorem divForm {f : Fields} {k sk : Reg → BitVec 32 → Instr} {x sx : Reg → Reg → Instr}
    (hk : ∀ d v, d.isWritable = true → (k d v).wellFormed = true := by exact fun _ _ => id)
    (hx : ∀ d r, d.isWritable = true → (x d r).wellFormed = true := by exact fun _ _ => id)
    (hsk : ∀ d v, d.isWritable = true → (sk d v).wellFormed = true := by exact fun _ _ => id)
    (hsx : ∀ d r, d.isWritable = true → (sx d r).wellFormed = true := by exact fun _ _ => id) :
    DecodesWellFormed (divForm f k x sk sx) :=
  ite (srcForm hk hx) (ite (srcForm hsk hsx) (error _))

theorem negForm {f : Fields} {mk : Reg → Instr}
    (h : ∀ d, d.isWritable = true → (mk d).wellFormed = true := by exact fun _ => id) :
    DecodesWellFormed (negForm f mk) :=
  check (check (writable fun d hd => ok (h d hd)))

theorem moveForm {f : Fields} {x : Reg → Reg → Instr}
    (h : ∀ d r, d.isWritable = true → (x d r).wellFormed = true := by exact fun _ _ => id) :
    DecodesWellFormed (moveForm f x) :=
  check (writable fun d hd => readable fun r => ok (h d r hd))

theorem endForm {f : Fields} {m16 m32 m64 : Reg → Instr}
    (h16 : ∀ d, d.isWritable = true → (m16 d).wellFormed = true := by exact fun _ => id)
    (h32 : ∀ d, d.isWritable = true → (m32 d).wellFormed = true := by exact fun _ => id)
    (h64 : ∀ d, d.isWritable = true → (m64 d).wellFormed = true := by exact fun _ => id) :
    DecodesWellFormed (endForm f m16 m32 m64) :=
  check <| ite (writable fun d hd => ok (h16 d hd)) <| ite (writable fun d hd => ok (h32 d hd)) <|
    ite (writable fun d hd => ok (h64 d hd)) (error _)

theorem jccForm {f : Fields} {k : Reg → BitVec 32 → BitVec 16 → Instr} {x : Reg → Reg → BitVec 16 → Instr}
    (hk : ∀ d v o, (k d v o).wellFormed = true := by exact fun _ _ _ => rfl)
    (hx : ∀ d r o, (x d r o).wellFormed = true := by exact fun _ _ _ => rfl) :
    DecodesWellFormed (jccForm f k x) :=
  ite (check (readable fun d => readable fun r => ok (hx d r _))) (check (readable fun d => ok (hk d _ _)))

theorem ldxForm {f : Fields} {mk : Reg → Reg → BitVec 16 → Instr}
    (h : ∀ d r o, d.isWritable = true → (mk d r o).wellFormed = true := by exact fun _ _ _ => id) :
    DecodesWellFormed (ldxForm f mk) :=
  check (writable fun d hd => readable fun r => ok (h d r _ hd))

theorem stForm {f : Fields} {mk : Reg → BitVec 16 → BitVec 32 → Instr}
    (h : ∀ d o v, (mk d o v).wellFormed = true := by exact fun _ _ _ => rfl) : DecodesWellFormed (stForm f mk) :=
  check (readable fun d => ok (h d _ _))

theorem stxForm {f : Fields} {mk : Reg → Reg → BitVec 16 → Instr}
    (h : ∀ d r o, (mk d r o).wellFormed = true := by exact fun _ _ _ => rfl) : DecodesWellFormed (stxForm f mk) :=
  check (readable fun d => readable fun r => ok (h d r _))

theorem atomicForm {f : Fields} {mk : Reg → Reg → BitVec 16 → Instr}
    (h : ∀ d r o, (mk d r o).wellFormed = true := by exact fun _ _ _ => rfl) : DecodesWellFormed (atomicForm f mk) :=
  readable fun d => readable fun r => ok (h d r _)

theorem fetchForm {f : Fields} {mk : Reg → Reg → BitVec 16 → Instr}
    (h : ∀ d r o, r.isWritable = true → (mk d r o).wellFormed = true := by exact fun _ _ _ => id) :
    DecodesWellFormed (fetchForm f mk) :=
  readable fun d => writable fun r hr => ok (h d r _ hr)

theorem absForm {f : Fields} {mk : BitVec 32 → Instr}
    (h : ∀ v, (mk v).wellFormed = true := by exact fun _ => rfl) : DecodesWellFormed (absForm f mk) :=
  check (ok (h _))

theorem indForm {f : Fields} {mk : Reg → BitVec 32 → Instr}
    (h : ∀ r v, (mk r v).wellFormed = true := by exact fun _ _ => rfl) : DecodesWellFormed (indForm f mk) :=
  check (readable fun r => ok (h r _))

theorem imm64Form {f : Fields} {next : BitVec 32} {mk : Reg → BitVec 32 → BitVec 32 → Instr}
    (h : ∀ d v w, d.isWritable = true → (mk d v w).wellFormed = true := by exact fun _ _ _ => id) :
    DecodesWellFormed (imm64Form f next mk) :=
  check (writable fun d hd => ok (h d _ _ hd))

theorem imm32Form {f : Fields} {next : BitVec 32} {mk : Reg → BitVec 32 → Instr}
    (h : ∀ d v, d.isWritable = true → (mk d v).wellFormed = true := by exact fun _ _ => id) :
    DecodesWellFormed (imm32Form f next mk) :=
  check (writable fun d hd => ok (h d _ hd))

/-! ## The classes -/

theorem decodeAlu32 (f : Fields) : DecodesWellFormed (decodeAlu32 f) := by
  unfold Sys2Proof.decodeAlu32
  split
  iterate 3 exact aluForm
  · exact divForm
  iterate 4 exact aluForm
  · exact negForm
  · exact divForm
  · exact aluForm
  · exact ite srcForm (check (ite moveForm (ite moveForm (error _))))
  · exact aluForm
  · exact ite endForm endForm
  · exact error _

theorem decodeAlu64 (f : Fields) : DecodesWellFormed (decodeAlu64 f) := by
  unfold Sys2Proof.decodeAlu64
  split
  iterate 3 exact aluForm
  · exact divForm
  iterate 4 exact aluForm
  · exact negForm
  · exact divForm
  · exact aluForm
  · exact ite srcForm (check (ite moveForm (ite moveForm (ite moveForm (error _)))))
  · exact aluForm
  · exact check endForm
  · exact error _

theorem decodeJmp64 (f : Fields) : DecodesWellFormed (decodeJmp64 f) := by
  unfold Sys2Proof.decodeJmp64
  split
  · exact check (check (ok rfl))
  iterate 7 exact jccForm
  · exact check <| check <| ite (check (ok rfl)) <| ite (check (ok rfl)) <| ite (ok rfl) (error _)
  · exact check (check (ok rfl))
  iterate 4 exact jccForm
  · exact error _

theorem decodeJmp32 (f : Fields) : DecodesWellFormed (decodeJmp32 f) := by
  unfold Sys2Proof.decodeJmp32
  split
  · exact check (check (ok rfl))
  iterate 11 exact jccForm
  · exact error _

theorem decodeLdx (f : Fields) : DecodesWellFormed (decodeLdx f) := by
  unfold Sys2Proof.decodeLdx
  split
  iterate 7 exact ldxForm
  · exact error _

theorem decodeSt (f : Fields) : DecodesWellFormed (decodeSt f) := by
  unfold Sys2Proof.decodeSt
  split
  iterate 4 exact stForm
  · exact error _

theorem decodeAtomic32 (f : Fields) : DecodesWellFormed (decodeAtomic32 f) := by
  unfold Sys2Proof.decodeAtomic32
  split
  iterate 4
    · exact atomicForm
    · exact fetchForm
  · exact fetchForm
  · exact atomicForm
  · exact error _

theorem decodeAtomic64 (f : Fields) : DecodesWellFormed (decodeAtomic64 f) := by
  unfold Sys2Proof.decodeAtomic64
  split
  iterate 4
    · exact atomicForm
    · exact fetchForm
  · exact fetchForm
  · exact atomicForm
  · exact error _

theorem decodeStx (f : Fields) : DecodesWellFormed (decodeStx f) := by
  unfold Sys2Proof.decodeStx
  split
  iterate 4 exact stxForm
  · exact decodeAtomic32 f
  · exact decodeAtomic64 f
  · exact error _

theorem decodeWide (f : Fields) (second : Option (BitVec 64)) : DecodesWellFormed (decodeWide f second) := by
  cases second with
  | none => exact error _
  | some w =>
    refine check ?_
    split
    · exact imm64Form
    · exact imm32Form
    · exact imm64Form
    iterate 3 exact imm32Form
    · exact imm64Form
    · exact error _

theorem decodeLd (f : Fields) (second : Option (BitVec 64)) : DecodesWellFormed (decodeLd f second) := by
  unfold Sys2Proof.decodeLd
  split
  · exact decodeWide f second
  iterate 3 exact absForm
  iterate 3 exact indForm
  · exact error _

theorem decodeFields (f : Fields) (second : Option (BitVec 64)) : DecodesWellFormed (decodeFields f second) := by
  unfold Sys2Proof.decodeFields
  split
  · exact decodeLd f second
  · exact decodeLdx f
  · exact decodeSt f
  · exact decodeStx f
  · exact decodeAlu32 f
  · exact decodeJmp64 f
  · exact decodeJmp32 f
  · exact decodeAlu64 f

end DecodesWellFormed

/-- The check of the conformance group lets through only what was decoded (R121). -/
theorem groupCheck_ok {gs : List Group} {e : Except Illegal Instr} {i : Instr} (h : groupCheck gs e = .ok i) :
    e = .ok i := by
  unfold groupCheck at h
  split at h
  · split at h
    · exact h
    · cases h
  · cases h

theorem decodeFor_wellFormed {p : Platform} {a : Slot} {b : Option Slot} {i : Instr} (h : decodeFor p a b = .ok i) :
    i.wellFormed = true :=
  DecodesWellFormed.decodeFields _ _ i (groupCheck_ok h)

end Sys2Proof
end

section
/-! Proofs about every step (R36, R43, R443): what it does with the frames, the registers, `pc` and the status. Each claim
is read off the shapes of a next state (Laws/Exec.lean). A step adds to them that the instruction was decoded, so
that it is well formed, and that the other agents had their turn before it. -/

namespace Sys2Proof.Machine

/-! ## What a step runs -/

theorem decodesTo_wellFormed {s : State} {i : Instr} (h : s.decodesTo i) : i.wellFormed = true :=
  decodeFor_wellFormed h.2

/-! ## What a shape keeps -/

/-- How an instruction leaves the frames: it stays in the running one, with `R10` as it was, or it is a program-local
call or a return (R36, R119). -/
inductive FrameMove (i : Instr) (s t : State) : Prop where
  | stay (hframes : t.frames = s.frames) (hfp : t.reg .r10 = s.reg .r10) (hplat : t.plat = s.plat)
      (hdraws : t.draws = s.draws) (hnext : t.nextDraw = s.nextDraw) (hmem : Memory.wf s.mem → Memory.wf t.mem)
  | enter (imm : BitVec 32) (hi : i = .callLocal imm) (hdepth : s.frames.length + 2 ≤ s.plat.maxCallDepth)
      (ht : t = s.enterFrame.jump imm.toInt)
  | leave (f : Frame) (rest : List Frame) (hi : i = .exit) (hframes : s.frames = f :: rest)
      (ht : t = s.leaveFrame f rest)

theorem wf_store {s : State} {a n : Nat} {v : Word} (hn : a + n ≤ 2 ^ 64) (h : Memory.wf s.mem) :
    Memory.wf (s.store a n v).mem :=
  Memory.wf_putBytes _ a (by simpa using hn) h

theorem Shape.frameMove {i : Instr} {s t : State} (h : Shape i s t) (hwf : i.wellFormed = true) : FrameMove i s t := by
  cases h with
  | result d v _ _ hf _ _ _ ht =>
    exact ht ▸ .stay rfl (State.setReg_reg_r10 s v (hf hwf)) rfl rfl rfl id
  | resultWide d v _ _ hf _ _ _ ht =>
    exact ht ▸ .stay rfl (State.setReg_reg_r10 s v (hf hwf)) rfl rfl rfl id
  | branch taken off _ _ _ _ ht =>
    subst ht
    exact .stay (by simp) (by simp) (by simp) (by simp) (by simp) (by simp)
  | jump n _ _ _ _ ht => exact ht ▸ .stay rfl rfl rfl rfl rfl id
  | store q off n kind b v _ _ _ _ hn _ _ _ ht =>
    exact ht ▸ .stay rfl rfl rfl rfl rfl (wf_store hn)
  | fetch q off n b v r old _ _ _ hn hf _ _ _ ht =>
    exact ht ▸ .stay rfl (State.setReg_reg_r10 _ old (hf hwf)) rfl rfl rfl (wf_store hn)
  | helper v ws _ _ _ _ ht => exact ht ▸ .stay rfl rfl rfl rfl rfl (Memory.wf_putAll ws)
  | call imm hi hd _ _ ht => exact .enter imm hi hd ht
  | finish v _ _ _ _ _ ht => exact ht ▸ .stay rfl rfl rfl rfl rfl id
  | leave f rest hi he _ _ ht => exact .leave f rest hi he ht

theorem Shape.plat_prog {i : Instr} {s t : State} (h : Shape i s t) : t.plat = s.plat ∧ t.prog = s.prog := by
  cases h <;> (rename_i ht; subst ht; exact ⟨by simp, by simp⟩)

/-- Only `EXIT` in the entry function changes the status. -/
theorem Shape.status {i : Instr} {s t : State} (h : Shape i s t) :
    t.status = s.status ∨ ∃ v, i = .exit ∧ s.frames = [] ∧ s.reg .r0 = some v ∧ t = s.finish v := by
  cases h with
  | finish v hi hv he _ _ ht => exact .inr ⟨v, hi, he, hv, ht⟩
  | result | resultWide | branch | jump | store | fetch | helper | call | leave =>
    rename_i ht
    exact .inl (by simp [ht])

/-- `step_shape`, cut down to the frames. -/
theorem step_frameMove {s t : State} (h : step s = .next t) : ∃ i, s.decodesTo i ∧ FrameMove i s.envTurn t :=
  let ⟨_, i, hi, hshape⟩ := step_shape h
  ⟨i, hi, hshape.frameMove (decodesTo_wellFormed hi)⟩

/-! ## `R10` and the call stack -/

/-- Settles O51: an instruction that moves no frame keeps `R10`, and one that does changes the number of frames. -/
theorem framePointerMovesOnlyWithFrames : Obligations.FramePointerMovesOnlyWithFrames := by
  intro s t h hsame
  obtain ⟨i, _, hmove⟩ := step_frameMove h
  cases hmove with
  | stay _ hfp => simpa using hfp
  | enter imm _ _ ht => simp [ht] at hsame
  | leave f rest _ hframes ht =>
    subst ht
    simp only [State.envTurn_frames, State.leaveFrame_frames] at hframes hsame
    simp [hsame] at hframes

/-- Settles O52: the two moves of the frames are the push and the pop. -/
theorem callStackDiscipline : Obligations.CallStackDiscipline := by
  intro s t h
  obtain ⟨i, hi, hmove⟩ := step_frameMove h
  cases hmove with
  | stay hframes => exact .inl (by simpa using hframes)
  | enter imm himm _ ht =>
    subst himm ht
    refine .inr (.inl ⟨imm, ⟨s.pc + 1, s.reg .r6, s.reg .r7, s.reg .r8, s.reg .r9⟩, hi, ?_, rfl, rfl, rfl, rfl, rfl⟩)
    simp [State.reg, Regs.get]
  | leave f rest hexit hframes ht =>
    subst hexit ht
    exact .inr (.inr ⟨f, hi, by simpa using hframes, rfl, rfl, rfl, rfl, rfl⟩)

/-! ## The invariant -/

theorem envTurn_wf {s : State} (h : Memory.wf s.mem) : Memory.wf s.envTurn.mem := by
  unfold State.envTurn
  split
  · exact h
  · exact Memory.wf_putAll _ h

theorem State.Inv.envTurn {s : State} (h : s.Inv) : s.envTurn.Inv := by
  obtain ⟨hwf, hfp, hdepth, hdraws⟩ := h
  refine ⟨envTurn_wf hwf, ?_, ?_, ?_⟩
  · simpa [State.framePointerOk, State.frameTop] using hfp
  · simpa [State.depthOk] using hdepth
  · simpa [State.drawsFresh] using hdraws

/-- The draw of a new frame is above all that were taken, and dropping an earlier one keeps the others in order. -/
theorem drawsFresh_enterFrame {s : State} (h : s.drawsFresh) : s.enterFrame.drawsFresh := by
  have hkept := ((s.draws.filter_sublist (p := fun t => decide (t.1 ≠ s.frameTop (s.frames.length + 1)))).map
    Prod.snd).append_right [0]
  have hold := List.Pairwise.sublist (hkept.cons_cons s.nextDraw) h
  refine List.pairwise_cons.2 ⟨fun n hn => ?_, hold⟩
  rcases List.mem_cons.1 hn with rfl | hn
  · exact Nat.lt_succ_self _
  · exact Nat.lt_succ_of_lt (List.rel_of_pairwise_cons hold hn)

theorem State.Inv.enterFrame {s : State} (h : s.Inv) (hdepth : s.frames.length + 2 ≤ s.plat.maxCallDepth) :
    s.enterFrame.Inv := by
  obtain ⟨hwf, _, _, hdraws⟩ := h
  exact ⟨Memory.wf_filter _ hwf, rfl, .inr hdepth, drawsFresh_enterFrame hdraws⟩

theorem State.Inv.leaveFrame {s : State} {f : Frame} {rest : List Frame} (h : s.Inv) (hframes : s.frames = f :: rest) :
    (s.leaveFrame f rest).Inv := by
  obtain ⟨hwf, _, hdepth, hdraws⟩ := h
  refine ⟨hwf, rfl, .inr ?_, hdraws⟩
  have hlen : s.frames.length = rest.length + 1 := by simp [hframes]
  have hmax : s.frames.length + 1 ≤ s.plat.maxCallDepth := hdepth.resolve_left (by simp [hframes])
  simp only [State.leaveFrame_frames, State.leaveFrame_plat]
  omega

theorem FrameMove.inv {i : Instr} {s t : State} (hmove : FrameMove i s t) (h : s.Inv) : t.Inv := by
  cases hmove with
  | stay hframes hfp hplat hdraws hnext hmem =>
    obtain ⟨hwf, hfp', hdepth, hfresh⟩ := h
    refine ⟨hmem hwf, ?_, ?_, ?_⟩
    · simpa [State.framePointerOk, State.frameTop, hframes, hfp, hplat] using hfp'
    · simpa [State.depthOk, hframes, hplat] using hdepth
    · simpa [State.drawsFresh, hdraws, hnext] using hfresh
  | enter imm _ hdepth ht => exact ht ▸ h.enterFrame hdepth
  | leave f rest _ hframes ht => exact ht ▸ h.leaveFrame hframes

/-- Settles O54: the other agents' turn keeps the invariant, and so does each move of the frames. -/
theorem invariantKeptByStep : Obligations.InvariantKeptByStep := by
  intro s t hinv h
  obtain ⟨i, _, hmove⟩ := step_frameMove h
  exact hmove.inv hinv.envTurn

/-- Settles O55. -/
theorem invariantHoldsAtStart : Obligations.InvariantHoldsAtStart := by
  have hdraws : [1, 0].Pairwise fun m n => n < m := by decide
  exact ⟨⟨Memory.wf_nil, rfl, .inl rfl, hdraws⟩, fun _ _ _ _ hwf => ⟨hwf, rfl, .inl rfl, hdraws⟩⟩

/-! ## Parameters and status -/

/-- Settles O50. -/
theorem stepKeepsParameters : Obligations.StepKeepsParameters := by
  intro s t h
  obtain ⟨_, i, _, hshape⟩ := step_shape h
  simpa using hshape.plat_prog

/-- Settles O53. -/
theorem runEndsOnlyByExit : Obligations.RunEndsOnlyByExit := by
  intro s t h
  obtain ⟨hrunning, i, hi, hshape⟩ := step_shape h
  rcases hshape.status with hsame | ⟨v, hexit, hframes, hr0, ht⟩
  · exact .inl (by simpa [hrunning] using hsame)
  · subst hexit
    exact .inr ⟨v, hi, by simpa using hframes, by simpa using hr0, ht⟩

/-! ## Registers and `pc` -/

/-- What a helper leaves outside `R0` to `R5`. -/
theorem State.afterHelper_reg_other (s : State) (v : Word) (ws : List (Word × Byte)) {r : Reg}
    (h : r ∉ [Reg.r0, .r1, .r2, .r3, .r4, .r5]) : (s.afterHelper v ws).reg r = s.reg r := by
  cases r with
  | r0 | r1 | r2 | r3 | r4 | r5 => simp at h
  | r6 | r7 | r8 | r9 | r10 => rfl

/-- What entering a frame leaves of the caller's registers: `R1` to `R5`. -/
theorem State.enterFrame_reg_other (s : State) {r : Reg} (h : r ∉ [Reg.r0, .r6, .r7, .r8, .r9, .r10]) :
    s.enterFrame.reg r = s.reg r := by
  cases r with
  | r0 | r6 | r7 | r8 | r9 | r10 => simp at h
  | r1 | r2 | r3 | r4 | r5 => rfl

/-- What leaving a frame leaves of the callee's registers: `R0`. -/
theorem State.leaveFrame_reg_other (s : State) (f : Frame) (rest : List Frame) {r : Reg}
    (h : r ∉ [Reg.r1, .r2, .r3, .r4, .r5, .r6, .r7, .r8, .r9, .r10]) : (s.leaveFrame f rest).reg r = s.reg r := by
  cases r with
  | r0 => rfl
  | r1 | r2 | r3 | r4 | r5 | r6 | r7 | r8 | r9 | r10 => simp at h

/-- Settles O45: what each shape writes is in the table `writesOf`. -/
theorem registerFrame : Obligations.RegisterFrame := by
  intro i s t r h hr
  cases exec_shape h with
  | result d v hw _ _ _ _ _ ht => exact ht ▸ State.result_reg_other s v (by simpa [hw] using hr)
  | resultWide d v hw _ _ _ _ _ ht => exact ht ▸ State.resultWide_reg_other s v (by simpa [hw] using hr)
  | branch taken off _ _ _ _ ht => simp [ht]
  | jump n _ _ _ _ ht => simp [ht]
  | store q off n kind b v _ _ _ _ _ _ _ _ ht => simp [ht]
  | fetch q off n b v d old hw _ _ _ _ _ _ _ ht =>
    exact ht ▸ State.setReg_reg_other (s.store _ n v) old (by simpa [hw] using hr)
  | helper v ws hw _ _ _ ht => exact ht ▸ s.afterHelper_reg_other v ws (hw ▸ hr)
  | call imm hi _ _ _ ht =>
    subst hi
    exact ht ▸ s.enterFrame_reg_other hr
  | finish v _ _ _ _ _ ht => simp [ht]
  | leave f rest hi _ _ _ ht =>
    subst hi
    exact ht ▸ s.leaveFrame_reg_other f rest hr

/-- Settles O48: every shape outside the classes JMP and JMP32 moves `pc` on by the slots of the instruction. -/
theorem pcAdvancesBySlots : Obligations.PcAdvancesBySlots := by
  intro i s t h h5 h6
  cases exec_shape h with
  | result _ _ _ _ _ hl _ _ ht => simp [ht, hl]
  | resultWide _ _ _ _ _ hl _ _ ht => simp [ht, hl]
  | store _ _ _ _ _ _ _ _ _ _ _ hl _ _ ht => simp [ht, hl]
  | fetch _ _ _ _ _ _ _ _ _ _ _ _ hl _ _ ht => simp [ht, hl]
  | branch _ _ _ _ _ hk => exact (hk.elim h5 h6).elim
  | jump _ _ _ _ hk => exact (hk.elim h5 h6).elim
  | helper _ _ _ _ _ hk => exact (h5 hk).elim
  | call _ _ _ _ hk => exact (h5 hk).elim
  | finish _ _ _ _ _ hk => exact (h5 hk).elim
  | leave _ _ _ _ _ hk => exact (h5 hk).elim

end Sys2Proof.Machine
end

section
/-! Proofs about what a step runs (R33, R35, R43, R404, R405, R417) and about admission (R31, R62, R444). -/

namespace Sys2Proof.Machine

/-! ## Fetch and step -/

theorem fetchInstr_ok {s : State} {i : Instr} (k : Instr → Out) (h : s.decodesTo i) : fetchInstr s k = k i := by
  obtain ⟨htarget, hdecode⟩ := h
  simp [fetchInstr, fetch, htarget, hdecode]

theorem fetchInstr_not_target {s : State} (k : Instr → Out) (h : s.isTarget s.pc = false) :
    fetchInstr s k = .fault (.badJumpTarget s.pc) := by
  simp [fetchInstr, fetch, h, raise]

theorem fetchInstr_illegal {s : State} {why : Illegal} (k : Instr → Out) (htarget : s.isTarget s.pc = true)
    (hdecode : decodeFor s.plat (s.slotAt s.pc.toNat) (s.slotAt? (s.pc.toNat + 1)) = .error why) :
    fetchInstr s k = .fault (.illegalInstruction s.pc why) := by
  simp [fetchInstr, fetch, htarget, hdecode, raise]

theorem step_running {s : State} (h : s.status = .running) :
    step s = fetchInstr s.envTurn fun i => exec i s.envTurn := by
  simp [step, h]

theorem step_ended {s : State} (h : s.status ≠ .running) : step s = .refused .runEnded := by
  unfold step
  split
  · exact absurd ‹_› h
  · rfl

/-- The other agents' turn changes neither `pc` nor the program, so not what is decoded. -/
theorem envTurn_decodesTo {s : State} {i : Instr} : s.envTurn.decodesTo i ↔ s.decodesTo i := by
  simp [State.decodesTo]

/-- Settles O6. -/
theorem stepRunsDecodedInstruction : Obligations.StepRunsDecodedInstruction := by
  intro s i hrunning htarget hdecode
  rw [step_running hrunning]
  exact fetchInstr_ok _ (envTurn_decodesTo.2 ⟨htarget, hdecode⟩)

/-- Settles O7. -/
theorem stepFaultsAtFetchAndDecode : Obligations.StepFaultsAtFetchAndDecode := by
  intro s why
  refine ⟨step_ended, fun hrunning htarget => ?_, fun hrunning htarget hdecode => ?_⟩
  · rw [step_running hrunning, fetchInstr_not_target _ (by simpa using htarget), State.envTurn_pc]
  · rw [step_running hrunning, fetchInstr_illegal _ (by simpa using htarget) (by simpa using hdecode),
      State.envTurn_pc]

/-! ## Targets -/

theorem startsFrom_past_end : ∀ (second : Bool) (text : List Slot) (n : Nat), text.length ≤ n →
    startsFrom second text n = false
  | _, [], _, _ => rfl
  | second, s :: rest, n + 1, h => startsFrom_past_end (!second && s.opcode == wideOpcode) rest n (by simpa using h)

/-- The slot after a slot of the text is a second half exactly if that one is a first slot with the wide opcode. -/
theorem startsFrom_succ : ∀ (second : Bool) (text : List Slot) (n : Nat), n + 1 < text.length →
    startsFrom second text (n + 1) = !(startsFrom second text n && (text.getD n Slot.zero).b0 == wideOpcode)
  | _, _ :: _ :: _, 0, _ => rfl
  | second, s :: rest, n + 1, h => startsFrom_succ (!second && s.opcode == wideOpcode) rest n (by simpa using h)

theorem isTarget_natCast (s : State) (n : Nat) : s.isTarget n = startsFrom false s.prog n := by
  simp [State.isTarget]

/-- Settles O8. -/
theorem targetsAreFirstSlots : Obligations.TargetsAreFirstSlots := by
  intro s
  refine ⟨fun t ht => ?_, fun hpos => ?_, fun n hn => ?_⟩
  · rcases ht with hneg | hend
    · simp [State.isTarget, hneg]
    · simp [State.isTarget, startsFrom_past_end false s.prog t.toNat (by omega)]
  · obtain ⟨a, rest, hprog⟩ := List.exists_cons_of_length_pos hpos
    simp [State.isTarget, hprog, startsFrom]
  · rw [isTarget_natCast, isTarget_natCast]
    exact startsFrom_succ false s.prog n hn

/-! ## Admission -/

theorem inStack_iff (s : State) (top : Word) (a n : Nat) :
    s.inStack top a n = true ↔ top.toNat ≤ a + s.plat.stackSize ∧ a + n ≤ top.toNat := by
  simp [State.inStack]

/-- Some clause of the platform's predicate admits a range exactly if a region does or the clause of that range is there
(R62). -/
theorem any_admitRuleHolds_iff (rules : List AdmitRule) (a n : Nat) (kind : AccessKind) :
    (rules.any fun r => admitRuleHolds r a n kind) = true ↔
      (∃ base size, .region base size kind ∈ rules ∧ base ≤ a ∧ a + n ≤ base + size) ∨ .exactly a n kind ∈ rules := by
  rw [List.any_eq_true]
  constructor
  · rintro ⟨rule, hmem, hholds⟩
    cases rule with
    | region base size k =>
      obtain ⟨⟨rfl, hbase⟩, hsize⟩ : (k = kind ∧ base ≤ a) ∧ a + n ≤ base + size := by
        simpa [admitRuleHolds] using hholds
      exact .inl ⟨base, size, hmem, hbase, hsize⟩
    | exactly addr m k =>
      obtain ⟨⟨rfl, rfl⟩, rfl⟩ : (k = kind ∧ a = addr) ∧ n = m := by simpa [admitRuleHolds] using hholds
      exact .inr hmem
  · rintro (⟨base, size, hmem, hbase, hsize⟩ | hmem)
    · exact ⟨_, hmem, by simp [admitRuleHolds, hbase, hsize]⟩
    · exact ⟨_, hmem, by simp [admitRuleHolds]⟩

/-- Settles O38. -/
theorem admissionRule : Obligations.AdmissionRule := by
  intro s a n kind
  simp only [State.admits, Bool.and_eq_true, Bool.or_eq_true, decide_eq_true_eq, State.inLiveStack_iff, inStack_iff,
    any_admitRuleHolds_iff]

/-! ## The stacks of a valid platform -/

theorem frameTop_eq_getElem (s : State) {k : Nat} (h : k < (usedTops s.plat).length) :
    s.frameTop k = (usedTops s.plat)[k] := by
  have hlt : k < s.plat.frameTops.length := h.trans_le (List.length_take_le' _ _)
  simp [State.frameTop, topOf, usedTops, hlt]

/-- A valid platform gives a top for every depth below `MAX_CALL_DEPTH` (R444(4)). -/
theorem usedTops_length {p : Platform} (h : PlatformValid p) : (usedTops p).length = p.maxCallDepth := by
  obtain ⟨_, _, hlen, _⟩ := h
  simpa [usedTops] using hlen

/-- The stacks of two depths of a valid platform are apart (R444(4)). -/
theorem frameTop_stacksApart {s : State} (hvalid : PlatformValid s.plat) {j k : Nat} (hjk : j < k)
    (hk : k < s.plat.maxCallDepth) : stacksApart s.plat.stackSize (s.frameTop j) (s.frameTop k) := by
  have hlen := usedTops_length hvalid
  obtain ⟨_, _, _, _, hapart, _⟩ := hvalid
  rw [frameTop_eq_getElem s (by omega), frameTop_eq_getElem s (by omega)]
  exact List.pairwise_iff_getElem.1 hapart j k (by omega) (by omega) hjk

/-- The stack of a depth of a valid platform is apart from what the platform admits (R444(4)). -/
theorem frameTop_stackApartFrom {s : State} (hvalid : PlatformValid s.plat) {k : Nat} (hk : k < s.plat.maxCallDepth)
    {r : AdmitRule} (hr : r ∈ s.plat.admission) : stackApartFrom s.plat.stackSize (s.frameTop k) r := by
  have hlen := usedTops_length hvalid
  obtain ⟨_, _, _, _, _, hregions⟩ := hvalid
  rw [frameTop_eq_getElem s (by omega)]
  exact hregions _ (List.getElem_mem _) r hr

/-- Settles O60: an admitted range lies in a live stack or in what a clause admits, and each is apart from the stack of a
depth that is not alive. -/
theorem stackOfADeadFrameIsNotAdmitted : Obligations.StackOfADeadFrameIsNotAdmitted := by
  intro s j a n kind hvalid hdead hj hn hbelow habove
  rw [← Bool.not_eq_true, admissionRule]
  rintro ⟨_, ⟨k, hk, hlow, hhigh⟩ | ⟨base, size, hmem, hlow, hhigh⟩ | hmem⟩
  · have := frameTop_stacksApart hvalid (show k < j by omega) hj
    unfold stacksApart at this
    omega
  · have := frameTop_stackApartFrom hvalid hj hmem
    simp only [stackApartFrom, admittedRange] at this
    omega
  · have := frameTop_stackApartFrom hvalid hj hmem
    simp only [stackApartFrom, admittedRange] at this
    omega

end Sys2Proof.Machine
end

section
/-! Proofs about registers that hold no value (R29, R30, R409): each form of an instruction reads the registers of the
table `readsOf`, in its order, before it does anything else. -/

namespace Sys2Proof.Machine

/-- The outcome `o` in `s` comes from reading the registers `rs` first, in order: the first of them that holds no value
makes it a fault (R30, R409). -/
def Reads (o : Out) (s : State) (rs : List Reg) : Prop :=
  ∀ (before after : List Reg) (r : Reg), rs = before ++ r :: after → (∀ q ∈ before, s.reg q ≠ none) →
    s.reg r = none → o = .fault (.uninitRegister r)

section

variable {s : State}

theorem Reads.nil {o : Out} : Reads o s [] := by
  intro before after r h
  simp at h

theorem Reads.cons {d : Reg} {rs : List Reg} {k : Word → Out} (h : ∀ v, Reads (k v) s rs) :
    Reads (readReg s d k) s (d :: rs) := by
  intro before after r hrs hbefore hr
  cases before with
  | nil =>
    obtain ⟨rfl, _⟩ := List.cons.inj hrs
    exact readReg_none hr k
  | cons q before =>
    obtain ⟨rfl, htail⟩ := List.cons.inj hrs
    obtain ⟨v, hv⟩ := Option.ne_none_iff_exists'.1 (hbefore d (by simp))
    rw [readReg_some hv]
    exact h v before after r htail (fun p hp => hbefore p (by simp [hp])) hr

/-! ## The forms -/

/-- The register that a source operand reads, if it reads one (R132, R231). -/
def Operand.reads : Operand → List Reg
  | .imm _ => []
  | .reg r => [r]

theorem readReg_reads {d : Reg} {k : Word → Out} : Reads (readReg s d k) s [d] :=
  .cons fun _ => .nil

theorem readReg_readReg_reads {d r : Reg} {k : Word → Word → Out} :
    Reads (readReg s d fun a => readReg s r (k a)) s [d, r] :=
  .cons fun _ => readReg_reads

theorem readReg_readReg_readReg_reads {d r q : Reg} {k : Word → Word → Word → Out} :
    Reads (readReg s d fun a => readReg s r fun b => readReg s q (k a b)) s [d, r, q] :=
  .cons fun _ => readReg_readReg_reads

theorem operand64_reads {o : Operand} {k : BitVec 64 → Out} : Reads (operand64 s o k) s o.reads := by
  cases o with
  | imm v => exact .nil
  | reg r => exact readReg_reads

theorem operand32_reads {o : Operand} {k : BitVec 32 → Out} : Reads (operand32 s o k) s o.reads := by
  cases o with
  | imm v => exact .nil
  | reg r => exact readReg_reads

theorem operands64_reads {d : Reg} {o : Operand} {k : BitVec 64 → BitVec 64 → Out} :
    Reads (operands64 s d o k) s (d :: o.reads) :=
  .cons fun _ => operand64_reads

theorem operands32_reads {d : Reg} {o : Operand} {k : BitVec 32 → BitVec 32 → Out} :
    Reads (operands32 s d o k) s (d :: o.reads) :=
  .cons fun _ => operand32_reads

theorem alu64_reads {f : BitVec 64 → BitVec 64 → BitVec 64} {d : Reg} {o : Operand} :
    Reads (alu64 f d o s) s (d :: o.reads) :=
  operands64_reads

theorem alu32_reads {f : BitVec 32 → BitVec 32 → BitVec 32} {d : Reg} {o : Operand} :
    Reads (alu32 f d o s) s (d :: o.reads) :=
  operands32_reads

theorem jump64_reads {c : BitVec 64 → BitVec 64 → Bool} {d : Reg} {o : Operand} {off : BitVec 16} :
    Reads (jump64 c d o off s) s (d :: o.reads) :=
  operands64_reads

theorem jump32_reads {c : BitVec 32 → BitVec 32 → Bool} {d : Reg} {o : Operand} {off : BitVec 16} :
    Reads (jump32 c d o off s) s (d :: o.reads) :=
  operands32_reads

end

/-! ## The instructions -/

/-- Every instruction begins with the reads of its row in `readsOf`. -/
theorem exec_reads (i : Instr) (s : State) : Reads (exec i s) s (readsOf i) := by
  cases i with
  | add32Imm | sub32Imm | mul32Imm | div32Imm | sdiv32Imm | or32Imm | and32Imm | lsh32Imm | rsh32Imm | mod32Imm
  | smod32Imm | xor32Imm | arsh32Imm | add32Reg | sub32Reg | mul32Reg | div32Reg | sdiv32Reg | or32Reg | and32Reg
  | lsh32Reg | rsh32Reg | mod32Reg | smod32Reg | xor32Reg | arsh32Reg =>
    exact alu32_reads
  | add64Imm | sub64Imm | mul64Imm | div64Imm | sdiv64Imm | or64Imm | and64Imm | lsh64Imm | rsh64Imm | mod64Imm
  | smod64Imm | xor64Imm | arsh64Imm | add64Reg | sub64Reg | mul64Reg | div64Reg | sdiv64Reg | or64Reg | and64Reg
  | lsh64Reg | rsh64Reg | mod64Reg | smod64Reg | xor64Reg | arsh64Reg =>
    exact alu64_reads
  | mov32Reg | mov64Reg | neg32 | neg64 | movsx32From8 | movsx32From16 | movsx64From8 | movsx64From16 | movsx64From32
  | le16 | le32 | le64 | be16 | be32 | be64 | bswap16 | bswap32 | bswap64 =>
    exact readReg_reads
  | jeq32Imm | jgt32Imm | jge32Imm | jset32Imm | jne32Imm | jsgt32Imm | jsge32Imm | jlt32Imm | jle32Imm | jslt32Imm
  | jsle32Imm | jeq32Reg | jgt32Reg | jge32Reg | jset32Reg | jne32Reg | jsgt32Reg | jsge32Reg | jlt32Reg | jle32Reg
  | jslt32Reg | jsle32Reg =>
    exact jump32_reads
  | jeq64Imm | jgt64Imm | jge64Imm | jset64Imm | jne64Imm | jsgt64Imm | jsge64Imm | jlt64Imm | jle64Imm | jslt64Imm
  | jsle64Imm | jeq64Reg | jgt64Reg | jge64Reg | jset64Reg | jne64Reg | jsgt64Reg | jsge64Reg | jlt64Reg | jle64Reg
  | jslt64Reg | jsle64Reg =>
    exact jump64_reads
  | ldxw | ldxh | ldxb | ldxdw | ldxsw | ldxsh | ldxsb | stw | sth | stb | stdw | exit =>
    exact readReg_reads
  | stxw | stxh | stxb | stxdw | atomicAdd32 | atomicOr32 | atomicAnd32 | atomicXor32 | atomicAdd64 | atomicOr64
  | atomicAnd64 | atomicXor64 | atomicFetchAdd32 | atomicFetchOr32 | atomicFetchAnd32 | atomicFetchXor32
  | atomicFetchAdd64 | atomicFetchOr64 | atomicFetchAnd64 | atomicFetchXor64 | atomicXchg32 | atomicXchg64 =>
    exact readReg_readReg_reads
  | atomicCmpxchg32 | atomicCmpxchg64 =>
    exact readReg_readReg_readReg_reads
  | mov32Imm | mov64Imm | ja | ja32 | lddw | callHelper | callBtf | callLocal | ldMapFd | ldVarAddr | ldCodeAddr
  | ldMapIdx | ldMapFdVal | ldMapIdxVal | ldabsw | ldabsh | ldabsb | ldindw | ldindh | ldindb =>
    exact Reads.nil

/-- Settles O44. -/
theorem unwrittenRegisterFaults : Obligations.UnwrittenRegisterFaults :=
  fun i s => exec_reads i s

end Sys2Proof.Machine
end

section
/-! Proofs about calls and returns (R36, R247 to R249, R299), about the start state (R440 to R442), and about the moves,
the wide instructions and the unconditional jumps (R34, R137, R138, R361). -/

namespace Sys2Proof.Machine

/-! ## Calls and returns -/

theorem exec_callLocal {s : State} (imm : BitVec 32) (h : s.frames.length + 2 ≤ s.plat.maxCallDepth) :
    exec (.callLocal imm) s = .next (s.enterFrame.jump imm.toInt) :=
  if_neg (Nat.not_lt.2 h)

theorem exec_exit_entry {s : State} {v : Word} (hr0 : s.reg .r0 = some v) (hframes : s.frames = []) :
    exec .exit s = .next (s.finish v) := by
  refine (readReg_some hr0 _).trans ?_
  simp [hframes]

theorem exec_exit_called {s : State} {v : Word} {f : Frame} {rest : List Frame} (hr0 : s.reg .r0 = some v)
    (hframes : s.frames = f :: rest) : exec .exit s = .next (s.leaveFrame f rest) := by
  refine (readReg_some hr0 _).trans ?_
  simp [hframes]

/-- Settles O22. -/
theorem localCallEntersFrame : Obligations.LocalCallEntersFrame := by
  intro s imm hdepth
  refine ⟨_, exec_callLocal imm hdepth, rfl, fun a ha => ?_⟩
  rw [State.byteAt_jump, State.byteAt_enterFrame_outside s a ha]

/-- Settles O25. -/
theorem exitReturnsToCaller : Obligations.ExitReturnsToCaller := by
  intro s v f rest hr0 hframes
  have hr0' : s.regs.r0 = some v := hr0
  exact ⟨_, exec_exit_called hr0 hframes, by simp [State.leaveFrame, Regs.dropArgs, hr0'],
    s.byteAt_leaveFrame f rest⟩

/-- Settles O26. -/
theorem exitEndsTheRun : Obligations.ExitEndsTheRun :=
  fun _ _ hr0 hframes => exec_exit_entry hr0 hframes

/-- Settles O27: the record that the call pushes is the one that the return pops. -/
theorem callThenExitRestores : Obligations.CallThenExitRestores := by
  intro s t u imm v hcall hframes hplat hr0
  obtain ⟨_, rfl⟩ := callFrame_next hcall
  have hpushed : u.frames = ⟨s.pc + 1, s.reg .r6, s.reg .r7, s.reg .r8, s.reg .r9⟩ :: s.frames := hframes
  refine ⟨_, exec_exit_called hr0 hpushed, rfl, rfl, rfl, hr0, ?_, ?_, ?_⟩
  · simp [State.leaveFrame, State.reg, Regs.get]
  · simp [State.leaveFrame, State.reg, Regs.get, Regs.dropArgs]
  · simp [State.leaveFrame, State.reg, Regs.get, State.frameTop, hplat]

/-! ## The start state -/

/-- Where no call has been made, a byte that is not stored belongs to draw 0 (R442). -/
theorem byteAt_of_no_draws {s : State} {a : Nat} (hdraws : s.draws = []) (h : Memory.get s.mem a = none) :
    s.byteAt a = Config.drawByte 0 a := by
  simp [State.byteAt, State.drawAt, h, hdraws]

/-- Settles O57. -/
theorem startStateOfTheSpec : Obligations.StartStateOfTheSpec := by
  intro p prog mem env
  refine ⟨rfl, rfl, rfl, rfl, rfl, rfl, rfl, rfl, rfl, ?_, fun a ha => byteAt_of_no_draws rfl ha⟩
  simp [State.runStart, State.reg, Regs.get]

/-! ## The integer formulas as operations on words (R17) -/

theorem uw_eq_toNat (w : Nat) (x : Word) : uw w x = (x.setWidth w).toNat := by
  simp [uw]

theorem sw_eq_toInt (w : Nat) (x : Word) : sw (w + 1) x = (x.setWidth (w + 1)).toInt := by
  have hhalf : (x.setWidth (w + 1)).toNat < 2 ^ w ↔ 2 * (x.setWidth (w + 1)).toNat < 2 ^ (w + 1) := by
    rw [pow_succ']
    omega
  rw [sw, uw_eq_toNat, BitVec.toInt_eq_toNat_cond, Nat.add_sub_cancel]
  norm_cast
  simp only [hhalf]

theorem toNat_ofInt_eq_emod (w : Nat) (z : Int) : ((BitVec.ofInt w z).toNat : Int) = z % 2 ^ w := by
  rw [BitVec.toNat_ofInt]
  exact_mod_cast Int.toNat_of_nonneg (Int.emod_nonneg z (by positivity))

theorem wrap_eq_setWidth (w : Nat) (z : Int) : wrap w z = (BitVec.ofInt w z).setWidth 64 := by
  rw [wrap, ← toNat_ofInt_eq_emod, BitVec.ofInt_natCast, BitVec.ofNat_toNat]

theorem wrap_uw (w : Nat) (x : Word) : wrap w (uw w x) = (x.setWidth w).setWidth 64 := by
  rw [wrap_eq_setWidth, uw_eq_toNat, BitVec.ofInt_natCast, BitVec.ofNat_toNat, BitVec.setWidth_eq]

theorem wrap_sw (n w : Nat) (x : Word) :
    wrap w (sw (n + 1) x) = ((x.setWidth (n + 1)).signExtend w).setWidth 64 := by
  rw [wrap_eq_setWidth, sw_eq_toInt, BitVec.signExtend]

theorem wrap_neg_uw (w : Nat) (x : Word) : wrap w (0 - uw w x) = (aluNeg (x.setWidth w)).setWidth 64 := by
  rw [wrap_eq_setWidth, uw_eq_toNat, Int.zero_sub, BitVec.ofInt_neg, BitVec.ofInt_natCast, BitVec.ofNat_toNat,
    BitVec.setWidth_eq, aluNeg, zero_sub]

/-! ## Moves -/

section

variable {s : State} {d r : Reg} {b : Word}

theorem move32_reg (h : s.reg r = some b) : move32 d (.reg r) s = .next (s.updated d (wrap 32 (uw 32 b)) 1) := by
  rw [wrap_uw]
  exact readReg_some h _

theorem move64_reg (h : s.reg r = some b) : move64 d (.reg r) s = .next (s.updated d b 1) :=
  readReg_some h _

theorem moveSx_some (n w : Nat) (h : s.reg r = some b) :
    moveSx (n + 1) w d r s = .next (s.updated d (wrap w (sw (n + 1) b)) 1) := by
  rw [wrap_sw]
  exact readReg_some h _

theorem exec_neg32 (h : s.reg d = some b) :
    exec (.neg32 d) s = .next (s.updated d (wrap 32 (0 - uw 32 b)) 1) := by
  rw [wrap_neg_uw]
  exact readReg_some h _

theorem exec_neg64 (h : s.reg d = some b) :
    exec (.neg64 d) s = .next (s.updated d (wrap 64 (0 - uw 64 b)) 1) := by
  rw [wrap_neg_uw, BitVec.setWidth_eq, BitVec.setWidth_eq]
  exact readReg_some h _

end

/-- Settles O15. -/
theorem moveAndNegResults : Obligations.MoveAndNegResults := by
  intro s d q b imm
  exact ⟨rfl, rfl, fun h => ⟨move32_reg h, move64_reg h, moveSx_some 7 32 h, moveSx_some 15 32 h, moveSx_some 7 64 h,
    moveSx_some 15 64 h, moveSx_some 31 64 h, exec_neg32 h, exec_neg64 h⟩⟩

/-! ## Effective addresses, unconditional jumps and wide instructions -/

/-- Settles O40. -/
theorem effectiveAddressWraps : Obligations.EffectiveAddressWraps := by
  intro b off
  rw [effAddr, BitVec.toNat_add, BitVec.signExtend]
  push_cast
  rw [toNat_ofInt_eq_emod]
  exact Int.add_emod_emod _ _ _

/-- Settles O21. -/
theorem unconditionalJumps : Obligations.UnconditionalJumps :=
  fun _ _ _ => ⟨rfl, rfl⟩

theorem append_eq_ofNat (x y : BitVec 32) : (x ++ y : BitVec 64) = BitVec.ofNat 64 (x.toNat * 2 ^ 32 + y.toNat) := by
  apply BitVec.eq_of_toNat_eq
  have hx := x.isLt
  have hy := y.isLt
  rw [BitVec.toNat_append, ← Nat.shiftLeft_add_eq_or_of_lt hy, Nat.shiftLeft_eq, BitVec.toNat_ofNat, Nat.mod_eq_of_lt]
  omega

theorem add_signExtend_eq_ofInt (a : Word) (x : BitVec 32) :
    a + x.signExtend 64 = BitVec.ofInt 64 ((a.toNat : Int) + x.toInt) := by
  rw [BitVec.ofInt_add, BitVec.ofInt_natCast, BitVec.ofNat_toNat, BitVec.setWidth_eq, BitVec.signExtend]

theorem exec_lddw (d : Reg) (imm nx : BitVec 32) (s : State) :
    exec (.lddw d imm nx) s = .next (s.updated d (BitVec.ofNat 64 (nx.toNat * 2 ^ 32 + imm.toNat)) 2) := by
  rw [← append_eq_ofNat]
  rfl

theorem platformForm_some {v : Option Word} {a : Word} (d : Reg) (s : State) (h : v = some a) :
    platformForm v d s = .next (s.updated d a 2) :=
  h ▸ rfl

theorem mapValueForm_some {m : Option Word} {x a : Word} (d : Reg) (nx : BitVec 32) {s : State} (hm : m = some x)
    (hval : s.plat.mapVal.lookup x = some a) :
    mapValueForm m d nx s = .next (s.updated d (BitVec.ofInt 64 ((a.toNat : Int) + nx.toInt)) 2) := by
  rw [← add_signExtend_eq_ofInt, hm, mapValueForm, platformValue, hval]
  rfl

/-- Settles O41. -/
theorem wideImmediateResults : Obligations.WideImmediateResults := by
  intro s d imm nx
  exact ⟨exec_lddw d imm nx s, fun _ => platformForm_some d s, fun _ => platformForm_some d s,
    fun _ => platformForm_some d s, fun _ => platformForm_some d s, fun _ _ => mapValueForm_some d nx,
    fun _ _ => mapValueForm_some d nx⟩

end Sys2Proof.Machine
end

section
/-! Proofs about the values and bytes of memory (R56, R58): the value of an access is its bytes in the host's order, and
what is read inside a stored range is a part of what was stored there. -/

namespace Sys2Proof.Machine

/-! ## The bytes of a value -/

theorem valueLE_extractLsb' {bs : List Byte} (hlen : bs.length ≤ 8) {k : Nat} (hk : k < bs.length) :
    (valueLE bs).extractLsb' (8 * k) 8 = bs[k] := by
  ext i hi
  have hbyte : (8 * k + i) / 8 = k := by omega
  have hbit : (8 * k + i) % 8 = i := by omega
  rw [BitVec.getElem_extractLsb', valueLE_getLsbD _ _ (by omega), hbyte, hbit, List.getD_eq_getElem _ _ hk,
    BitVec.getLsbD_eq_getElem hi]

theorem valueLE_toNat_lt (bs : List Byte) : (valueLE bs).toNat < 2 ^ (8 * bs.length) := by
  induction bs with
  | nil => simp [valueLE]
  | cons b rest ih =>
    have hrest : (valueLE rest <<< 8).toNat < 2 ^ (8 * (rest.length + 1)) := by
      rw [BitVec.toNat_shiftLeft, Nat.shiftLeft_eq, Nat.mul_add, pow_add]
      exact (Nat.mod_le _ _).trans_lt (Nat.mul_lt_mul_of_pos_right ih (by decide))
    have hb : (b.setWidth 64).toNat < 2 ^ (8 * (rest.length + 1)) := by
      rw [BitVec.toNat_setWidth]
      exact (Nat.mod_le _ _).trans_lt (b.isLt.trans_le (Nat.pow_le_pow_right (by decide) (by omega)))
    rw [valueLE, BitVec.toNat_or]
    exact Nat.or_lt_two_pow hrest hb

/-- Byte `k` of the value of some bytes is the one at place `k` (R56). -/
theorem byteOf_dataValue (e : Endian) {bs : List Byte} (hlen : bs.length ≤ 8) {k : Nat} (hk : k < bs.length) :
    byteOf e bs.length (dataValue e bs) k = bs[k] := by
  cases e with
  | little => exact valueLE_extractLsb' hlen hk
  | big =>
    calc (valueLE bs.reverse).extractLsb' (8 * (bs.length - 1 - k)) 8
        = bs.reverse[bs.length - 1 - k]'(by simp; omega) := valueLE_extractLsb' (by simpa using hlen) _
      _ = bs[k] := by
        rw [List.getElem_reverse]
        congr 1
        omega

theorem dataValue_toNat_lt (e : Endian) (bs : List Byte) : (dataValue e bs).toNat < 2 ^ (8 * bs.length) := by
  cases e with
  | little => exact valueLE_toNat_lt bs
  | big => simpa [dataValue] using valueLE_toNat_lt bs.reverse

/-- The bytes that a store writes are the bytes of its value (R56). -/
theorem dataBytes_getElem (e : Endian) (n : Nat) (v : Word) {k : Nat} (hk : k < (dataBytes e n v).length) :
    (dataBytes e n v)[k] = byteOf e n v k := by
  cases e with
  | little => exact bytesLE_getElem n v k _
  | big =>
    calc (bytesLE n v).reverse[k]'hk
        = (bytesLE n v)[(bytesLE n v).length - 1 - k]'(by simp at hk ⊢; omega) := List.getElem_reverse _
      _ = v.extractLsb' (8 * (n - 1 - k)) 8 := by rw [bytesLE_getElem, bytesLE_length]

/-- The bytes of an access of `n` bytes are those of the low `8 * n` bits. -/
theorem byteOf_congr (e : Endian) {n k : Nat} {v x : Word} (h : v.setWidth (8 * n) = x.setWidth (8 * n)) (hk : k < n) :
    byteOf e n v k = byteOf e n x k := by
  have hbyte : ∀ j < n, v.extractLsb' (8 * j) 8 = x.extractLsb' (8 * j) 8 := by
    intro j hj
    calc v.extractLsb' (8 * j) 8
        = (v.setWidth (8 * n)).extractLsb' (8 * j) 8 := (BitVec.extractLsb'_setWidth_of_le (by omega)).symm
      _ = (x.setWidth (8 * n)).extractLsb' (8 * j) 8 := by rw [h]
      _ = x.extractLsb' (8 * j) 8 := BitVec.extractLsb'_setWidth_of_le (by omega)
  cases e with
  | little => exact hbyte k hk
  | big => exact hbyte (n - 1 - k) (by omega)

/-- Settles O31. -/
theorem valueAtIsTheBytes : Obligations.ValueAtIsTheBytes := by
  intro s a n hn
  have hlen : (s.bytesAt a n).length = n := bytesAt_length s n a
  refine ⟨fun k hk => ?_, ?_⟩
  · have hbyte := byteOf_dataValue s.plat.endian (hlen.trans_le hn) (hk.trans_eq hlen.symm)
    rwa [bytesAt_getElem, hlen] at hbyte
  · have hlt := dataValue_toNat_lt s.plat.endian (s.bytesAt a n)
    rwa [hlen] at hlt

/-! ## Reading what was stored -/

/-- The bytes read inside a stored range are a part of the bytes stored there. -/
theorem bytesAt_store_inside (s : State) (a n : Nat) (v : Word) {j m : Nat} (h : j + m ≤ n) :
    (s.store a n v).bytesAt (a + j) m = ((dataBytes s.plat.endian n v).drop j).take m := by
  apply List.ext_getElem
  · simp
    omega
  · intro k hk _
    have hkm : k < m := by simpa using hk
    rw [bytesAt_getElem, Nat.add_assoc, State.byteAt_store_inside s a n v (j + k) (by omega)]
    simp

theorem valueAt_store_inside (s : State) (a n : Nat) (v : Word) {j m : Nat} (h : j + m ≤ n) :
    (s.store a n v).valueAt (a + j) m =
      dataValue s.plat.endian (((dataBytes s.plat.endian n v).drop j).take m) := by
  rw [State.valueAt, bytesAt_store_inside s a n v h, State.store_plat]

/-- Moving `pc` leaves the value of every access as it was. -/
@[simp] theorem State.valueAt_advance (s : State) (m : Int) (a n : Nat) : (s.advance m).valueAt a n = s.valueAt a n := by
  have hbytes : (s.advance m).bytesAt a n = s.bytesAt a n := by
    apply List.ext_getElem
    · simp
    · intro k _ _
      rw [bytesAt_getElem, bytesAt_getElem, State.byteAt_advance]
  rw [State.valueAt, hbytes, State.advance_plat, State.valueAt]

/-- A load of the width of the store gives the low bytes of the stored value, on either host (R56, R71). -/
theorem valueAt_store_same (s : State) (a n : Nat) (v : Word) :
    (s.store a n v).valueAt a n = wrap (8 * n) (uw (8 * n) v) := by
  have hall : ((dataBytes s.plat.endian n v).drop 0).take n = dataBytes s.plat.endian n v := by simp
  have hvalue := valueAt_store_inside s a n v (j := 0) (m := n) (by omega)
  rw [hall, dataValue_dataBytes] at hvalue
  refine hvalue.trans ?_
  rw [wrap_uw]
  refine BitVec.eq_of_getLsbD_eq fun i hi => ?_
  rw [valueLE_bytesLE n v i hi]
  simp [hi]

/-- Settles O37: the bytes of the stored word are 44 33 22 11 on a little-endian host and 11 22 33 44 on a big-endian
one, and each read takes a part of them. -/
theorem narrowReadOfWideStore : Obligations.NarrowReadOfWideStore := by
  intro s a
  have hbyte := valueAt_store_inside s a 4 0x11223344 (j := 0) (m := 1) (by decide)
  have hhalf := valueAt_store_inside s a 4 0x11223344 (j := 2) (m := 2) (by decide)
  refine ⟨fun hlittle => ?_, fun hbig => ?_⟩
  · rw [hlittle] at hbyte hhalf
    exact ⟨hbyte.trans (by decide), hhalf.trans (by decide)⟩
  · rw [hbig] at hbyte hhalf
    exact ⟨hbyte.trans (by decide), hhalf.trans (by decide)⟩

end Sys2Proof.Machine
end

section
/-! Proofs about loads, stores and atomics (43_load_store.md, 44_atomic.md). Each of them is one of six forms. For each
form one rule says what it answers where its access goes through (R63 to R65), and another where it faults. -/

namespace Sys2Proof.Machine

/-! ## Accesses that go through -/

theorem aligned_iff (a : Word) (n : Nat) : aligned a n = true ↔ a.toNat % n = 0 := by
  simp [aligned]

section

variable {s : State} {a : Word} {n : Nat} {kind : AccessKind}

theorem State.accessible.aligned_of_strict (h : s.accessible a n kind) :
    s.plat.alignStrict = true → aligned a n = true :=
  fun hstrict => (aligned_iff a n).2 (h.2 (.inr hstrict))

theorem memRead_accessible (h : s.accessible a n .read) (k : Word → Out) :
    memRead s a n k = k (s.valueAt a.toNat n) :=
  memRead_ok h.1 h.aligned_of_strict k

theorem memWrite_accessible (h : s.accessible a n .write) (v : Word) (k : State → Out) :
    memWrite s a n v k = k (s.store a.toNat n v) :=
  memWrite_ok h.1 h.aligned_of_strict k

theorem atomicRMW_accessible (h : s.accessible a n .atomic) (f : Word → Word) (k : Word → State → Out) :
    atomicRMW s a n f k = k (s.valueAt a.toNat n) (s.store a.toNat n (f (s.valueAt a.toNat n))) :=
  atomicRMW_ok h.1 ((aligned_iff a n).2 (h.2 (.inl rfl))) k

end

/-! ## What a store leaves -/

theorem byteAt_store_byteOf (s : State) (a n : Nat) {v x : Word} (hlow : v.setWidth (8 * n) = x.setWidth (8 * n))
    {k : Nat} (hk : k < n) : (s.store a n v).byteAt (a + k) = byteOf s.plat.endian n x k := by
  rw [State.byteAt_store_inside s a n v k hk, dataBytes_getElem, byteOf_congr _ hlow hk]

theorem storedAt_store (s : State) (a n : Nat) {v x : Word} (hlow : v.setWidth (8 * n) = x.setWidth (8 * n)) :
    storedAt s ((s.store a n v).advance 1) a n x :=
  ⟨rfl, fun _ hk => byteAt_store_byteOf s a n hlow hk, s.byteAt_store_outside a n v⟩

theorem storedAndFetched_store (s : State) (a n : Nat) {v x : Word} (r : Reg) (old : Word)
    (hlow : v.setWidth (8 * n) = x.setWidth (8 * n)) :
    storedAndFetched s (((s.store a n v).setReg r old).advance 1) a n x r old :=
  ⟨rfl, fun _ hk => byteAt_store_byteOf s a n hlow hk, s.byteAt_store_outside a n v⟩

/-! ## The forms, where the access goes through -/

section

variable {s : State} {d q : Reg} {b v : Word} {off : BitVec 16} {n : Nat}

theorem loadForm_accessible (g : Word → Word) (hq : s.reg q = some b) (h : s.accessible (effAddr b off) n .read) :
    loadForm n g d q off s = .next (s.updated d (g (s.valueAt (effAddr b off).toNat n)) 1) :=
  (readReg_some hq _).trans (memRead_accessible h _)

theorem storeImm_accessible (imm : BitVec 32) (hd : s.reg d = some b) (h : s.accessible (effAddr b off) n .write) :
    storeImm n d off imm s = .next ((s.store (effAddr b off).toNat n (imm.signExtend 64)).advance 1) :=
  (readReg_some hd _).trans (memWrite_accessible h _ _)

theorem storeReg_accessible (hd : s.reg d = some b) (hq : s.reg q = some v)
    (h : s.accessible (effAddr b off) n .write) :
    storeReg n d q off s = .next ((s.store (effAddr b off).toNat n v).advance 1) :=
  (readReg_some hd _).trans ((readReg_some hq _).trans (memWrite_accessible h _ _))

theorem storeImm_stored (imm : BitVec 32) (hd : s.reg d = some b) (h : s.accessible (effAddr b off) n .write) :
    ∃ t, storeImm n d off imm s = .next t ∧ storedAt s t (effAddr b off).toNat n (imm.signExtend 64) :=
  ⟨_, storeImm_accessible imm hd h, storedAt_store s _ n rfl⟩

theorem storeReg_stored (hd : s.reg d = some b) (hq : s.reg q = some v) (h : s.accessible (effAddr b off) n .write) :
    ∃ t, storeReg n d q off s = .next t ∧ storedAt s t (effAddr b off).toNat n v :=
  ⟨_, storeReg_accessible hd hq h, storedAt_store s _ n rfl⟩

/-- The value `x` that an atomic is said to store need agree with the model's only in the bits that are stored. -/
theorem atomicPlain_stored {f : Word → Word → Word} {x : Word} (hd : s.reg d = some b) (hq : s.reg q = some v)
    (h : s.accessible (effAddr b off) n .atomic)
    (hlow : (f (s.valueAt (effAddr b off).toNat n) v).setWidth (8 * n) = x.setWidth (8 * n)) :
    ∃ t, atomicPlain n f d q off s = .next t ∧ storedAt s t (effAddr b off).toNat n x :=
  ⟨_, (readReg_some hd _).trans ((readReg_some hq _).trans (atomicRMW_accessible h _ _)), storedAt_store s _ n hlow⟩

theorem atomicFetch_stored {f : Word → Word → Word} {x : Word} (hd : s.reg d = some b) (hq : s.reg q = some v)
    (h : s.accessible (effAddr b off) n .atomic)
    (hlow : (f (s.valueAt (effAddr b off).toNat n) v).setWidth (8 * n) = x.setWidth (8 * n)) :
    ∃ t, atomicFetch n f d q off s = .next t ∧
      storedAndFetched s t (effAddr b off).toNat n x q (s.valueAt (effAddr b off).toNat n) :=
  ⟨_, (readReg_some hd _).trans ((readReg_some hq _).trans (atomicRMW_accessible h _ _)),
    storedAndFetched_store s _ n q _ hlow⟩

theorem atomicCompare_stored {f : Word → Word → Word → Word} {c x : Word} (hd : s.reg d = some b)
    (hq : s.reg q = some v) (hr0 : s.reg .r0 = some c) (h : s.accessible (effAddr b off) n .atomic)
    (hlow : (f c (s.valueAt (effAddr b off).toNat n) v).setWidth (8 * n) = x.setWidth (8 * n)) :
    ∃ t, atomicCompare n f d q off s = .next t ∧
      storedAndFetched s t (effAddr b off).toNat n x .r0 (s.valueAt (effAddr b off).toNat n) :=
  ⟨_, (readReg_some hd _).trans ((readReg_some hq _).trans ((readReg_some hr0 _).trans (atomicRMW_accessible h _ _))),
    storedAndFetched_store s _ n .r0 _ hlow⟩

end

/-! ## Loads and stores -/

/-- The sign extension of a narrow value is its two's complement reading at 64 bits (R17, R304). -/
theorem signExtend_eq_wrap_sw (n : Nat) (x : Word) :
    (x.setWidth (n + 1)).signExtend 64 = wrap 64 (sw (n + 1) x) := by
  rw [wrap_sw, BitVec.setWidth_eq]

/-- Settles O30: every load is a load form, with the identity or a sign extension. -/
theorem loadResults : Obligations.LoadResults := by
  intro s d q b off hq
  refine ⟨loadForm_accessible _ hq, loadForm_accessible _ hq, loadForm_accessible _ hq, loadForm_accessible _ hq,
    fun h => ?_, fun h => ?_, fun h => ?_⟩
  · exact signExtend_eq_wrap_sw 31 _ ▸ loadForm_accessible _ hq h
  · exact signExtend_eq_wrap_sw 15 _ ▸ loadForm_accessible _ hq h
  · exact signExtend_eq_wrap_sw 7 _ ▸ loadForm_accessible _ hq h

/-- Settles O32. -/
theorem storeResults : Obligations.StoreResults := by
  intro s d q b v off imm hd hq
  exact ⟨fun h => ⟨storeImm_stored imm hd h, storeReg_stored hd hq h⟩,
    fun h => ⟨storeImm_stored imm hd h, storeReg_stored hd hq h⟩,
    fun h => ⟨storeImm_stored imm hd h, storeReg_stored hd hq h⟩,
    fun h => ⟨storeImm_stored imm hd h, storeReg_stored hd hq h⟩⟩

/-! ## Atomics -/

theorem sumOf_eq_aluAdd (w : Nat) (a b : Word) :
    sumOf w a b = (aluAdd (a.setWidth w) (b.setWidth w)).setWidth 64 := by
  rw [sumOf, wrap_eq_setWidth, uw_eq_toNat, uw_eq_toNat, BitVec.ofInt_add, BitVec.ofInt_natCast,
    BitVec.ofInt_natCast, BitVec.ofNat_toNat, BitVec.ofNat_toNat, BitVec.setWidth_eq, BitVec.setWidth_eq, aluAdd]

theorem sumOf_64 (a b : Word) : sumOf 64 a b = aluAdd a b := by
  simp [sumOf_eq_aluAdd]

theorem setWidth_low32 (f : BitVec 32 → BitVec 32 → BitVec 32) (old v : Word) :
    (low32 f old v).setWidth 32 = f (old.setWidth 32) (v.setWidth 32) :=
  BitVec.setWidth_setWidth_of_le _ (by decide)

theorem low32_aluAdd (old v : Word) : low32 aluAdd old v = sumOf 32 old v :=
  (sumOf_eq_aluAdd 32 old v).symm

theorem low32_aluOr (old v : Word) : (low32 aluOr old v).setWidth 32 = (old ||| v).setWidth 32 :=
  (setWidth_low32 aluOr old v).trans BitVec.setWidth_or.symm

theorem low32_aluAnd (old v : Word) : (low32 aluAnd old v).setWidth 32 = (old &&& v).setWidth 32 :=
  (setWidth_low32 aluAnd old v).trans BitVec.setWidth_and.symm

theorem low32_aluXor (old v : Word) : (low32 aluXor old v).setWidth 32 = (old ^^^ v).setWidth 32 :=
  (setWidth_low32 aluXor old v).trans BitVec.setWidth_xor.symm

theorem low32_exchange (old v : Word) : (low32 exchange old v).setWidth 32 = v.setWidth 32 :=
  setWidth_low32 exchange old v

/-- Settles O33: each is the form without `FETCH`, with the model's operation the rule's in the stored bits. -/
theorem atomicResults : Obligations.AtomicResults := by
  intro s d q b v off hd hq
  refine ⟨fun h => ⟨?_, ?_, ?_, ?_⟩, fun h => ⟨?_, ?_, ?_, ?_⟩⟩
  · exact atomicPlain_stored hd hq h (congrArg _ (low32_aluAdd _ v))
  · exact atomicPlain_stored hd hq h (low32_aluOr _ v)
  · exact atomicPlain_stored hd hq h (low32_aluAnd _ v)
  · exact atomicPlain_stored hd hq h (low32_aluXor _ v)
  · exact atomicPlain_stored hd hq h (congrArg _ (sumOf_64 _ v).symm)
  · exact atomicPlain_stored hd hq h rfl
  · exact atomicPlain_stored hd hq h rfl
  · exact atomicPlain_stored hd hq h rfl

/-- Settles O34: as for the atomics without `FETCH`; the source register is written last, so it may be the base. -/
theorem atomicFetchResults : Obligations.AtomicFetchResults := by
  intro s d q b v off hd hq
  refine ⟨fun h => ⟨?_, ?_, ?_, ?_, ?_⟩, fun h => ⟨?_, ?_, ?_, ?_, ?_⟩⟩
  · exact atomicFetch_stored hd hq h (congrArg _ (low32_aluAdd _ v))
  · exact atomicFetch_stored hd hq h (low32_aluOr _ v)
  · exact atomicFetch_stored hd hq h (low32_aluAnd _ v)
  · exact atomicFetch_stored hd hq h (low32_aluXor _ v)
  · exact atomicFetch_stored hd hq h (low32_exchange _ v)
  · exact atomicFetch_stored hd hq h (congrArg _ (sumOf_64 _ v).symm)
  · exact atomicFetch_stored hd hq h rfl
  · exact atomicFetch_stored hd hq h rfl
  · exact atomicFetch_stored hd hq h rfl
  · exact atomicFetch_stored hd hq h rfl

/-- The unsigned readings of two values are equal exactly if their low bits are. -/
theorem uw_inj (w : Nat) (x y : Word) : uw w x = uw w y ↔ x.setWidth w = y.setWidth w := by
  rw [uw_eq_toNat, uw_eq_toNat, Int.natCast_inj, BitVec.toNat_inj]

theorem compareExchange_setWidth (w : Nat) (c old v : Word) :
    compareExchange (c.setWidth w) (old.setWidth w) (v.setWidth w) =
      (if uw w old = uw w c then v else old).setWidth w := by
  simp only [compareExchange, uw_inj]
  split <;> rfl

/-- Settles O35. -/
theorem compareExchangeResults : Obligations.CompareExchangeResults := by
  intro s d q b v c off hd hq hr0
  refine ⟨fun h => atomicCompare_stored hd hq hr0 h ?_, fun h => atomicCompare_stored hd hq hr0 h ?_⟩
  · exact (setWidth_low32 _ _ v).trans (compareExchange_setWidth 32 c _ v)
  · exact compareExchange_setWidth 64 c _ v

end Sys2Proof.Machine
end

section
/-! Proofs about the faults of an access (R305, R338, R406, R407, R417), and about a load after a store (R71). -/

namespace Sys2Proof.Machine

/-! ## Admission first, then alignment -/

/-- The outcome `o` in `s` comes from an access of kind `kind` to `n` bytes at `a`: it is `MemFault` where the access is
not admitted, `Misaligned` where it is admitted and not aligned as it must be, and a next state otherwise (R417). -/
def Accesses (o : Out) (s : State) (a : Word) (n : Nat) (kind : AccessKind) : Prop :=
  (s.admits a n kind = false → o = .fault (.memFault a n kind)) ∧
    (s.admits a n kind = true → a.toNat % n ≠ 0 → (kind = .atomic ∨ s.plat.alignStrict = true) →
      o = .fault (.misaligned a n)) ∧
    (s.accessible a n kind → ∃ t, o = .next t)

section

variable {s : State} {a : Word} {n : Nat} {kind : AccessKind}

theorem memRead_accesses {k : Word → Out} (hk : ∀ v, ∃ t, k v = .next t) : Accesses (memRead s a n k) s a n .read := by
  refine ⟨fun hadmits => ?_, fun hadmits halign hstrict => ?_, fun h => ?_⟩
  · simp [memRead, hadmits, raise]
  · simp [memRead, hadmits, aligned, halign, hstrict.resolve_left (by decide), raise]
  · exact (memRead_accessible h k).symm ▸ hk _

theorem memWrite_accesses {v : Word} {k : State → Out} (hk : ∀ u, ∃ t, k u = .next t) :
    Accesses (memWrite s a n v k) s a n .write := by
  refine ⟨fun hadmits => ?_, fun hadmits halign hstrict => ?_, fun h => ?_⟩
  · simp [memWrite, hadmits, raise]
  · simp [memWrite, hadmits, aligned, halign, hstrict.resolve_left (by decide), raise]
  · exact (memWrite_accessible h v k).symm ▸ hk _

theorem atomicRMW_accesses {f : Word → Word} {k : Word → State → Out} (hk : ∀ old u, ∃ t, k old u = .next t) :
    Accesses (atomicRMW s a n f k) s a n .atomic := by
  refine ⟨fun hadmits => ?_, fun hadmits halign _ => ?_, fun h => ?_⟩
  · simp [atomicRMW, hadmits, raise]
  · simp [atomicRMW, hadmits, aligned, halign, raise]
  · exact (atomicRMW_accessible h f k).symm ▸ hk _ _

/-- An access that answers a next state has gone through. -/
theorem Accesses.accessible {o : Out} {t : State} (h : Accesses o s a n kind) (ho : o = .next t) :
    s.accessible a n kind := by
  obtain ⟨hfault, hmisaligned, _⟩ := h
  subst ho
  have hadmits : s.admits a n kind = true := by
    rw [← Bool.not_eq_false]
    exact fun hnot => nomatch hfault hnot
  refine ⟨hadmits, fun hstrict => ?_⟩
  by_contra halign
  exact nomatch hmisaligned hadmits halign hstrict

theorem Accesses.of_readReg {r : Reg} {v : Word} {k : Word → Out} (hr : s.reg r = some v)
    (h : Accesses (k v) s a n kind) : Accesses (readReg s r k) s a n kind :=
  (readReg_some hr k).symm ▸ h

/-- As `Accesses.of_readReg`, for a register of which no more is known than that it holds a value. -/
theorem Accesses.of_readReg_ne_none {r : Reg} {k : Word → Out} (hr : s.reg r ≠ none)
    (h : ∀ v, Accesses (k v) s a n kind) : Accesses (readReg s r k) s a n kind := by
  obtain ⟨v, hv⟩ := Option.ne_none_iff_exists'.1 hr
  exact .of_readReg hv (h v)

end

/-! ## The forms -/

section

variable {s : State} {d q : Reg} {b : Word} {off : BitVec 16} {n : Nat}

theorem loadForm_accesses {g : Word → Word} (hq : s.reg q = some b) :
    Accesses (loadForm n g d q off s) s (effAddr b off) n .read :=
  .of_readReg hq (memRead_accesses fun _ => ⟨_, rfl⟩)

theorem storeImm_accesses {imm : BitVec 32} (hd : s.reg d = some b) :
    Accesses (storeImm n d off imm s) s (effAddr b off) n .write :=
  .of_readReg hd (memWrite_accesses fun _ => ⟨_, rfl⟩)

theorem storeReg_accesses (hd : s.reg d = some b) (hr : ∀ r ∈ [d, q], s.reg r ≠ none) :
    Accesses (storeReg n d q off s) s (effAddr b off) n .write :=
  .of_readReg hd (.of_readReg_ne_none (hr q (by simp)) fun _ => memWrite_accesses fun _ => ⟨_, rfl⟩)

theorem atomicPlain_accesses {f : Word → Word → Word} (hd : s.reg d = some b) (hr : ∀ r ∈ [d, q], s.reg r ≠ none) :
    Accesses (atomicPlain n f d q off s) s (effAddr b off) n .atomic :=
  .of_readReg hd (.of_readReg_ne_none (hr q (by simp)) fun _ => atomicRMW_accesses fun _ _ => ⟨_, rfl⟩)

theorem atomicFetch_accesses {f : Word → Word → Word} (hd : s.reg d = some b) (hr : ∀ r ∈ [d, q], s.reg r ≠ none) :
    Accesses (atomicFetch n f d q off s) s (effAddr b off) n .atomic :=
  .of_readReg hd (.of_readReg_ne_none (hr q (by simp)) fun _ => atomicRMW_accesses fun _ _ => ⟨_, rfl⟩)

theorem atomicCompare_accesses {f : Word → Word → Word → Word} (hd : s.reg d = some b)
    (hr : ∀ r ∈ [d, q, Reg.r0], s.reg r ≠ none) :
    Accesses (atomicCompare n f d q off s) s (effAddr b off) n .atomic :=
  .of_readReg hd (.of_readReg_ne_none (hr q (by simp)) fun _ => .of_readReg_ne_none (hr .r0 (by simp)) fun _ =>
    atomicRMW_accesses fun _ _ => ⟨_, rfl⟩)

end

/-! ## The instructions -/

/-- Every load, store and atomic makes the access of its row in `accessOf`. -/
theorem exec_accesses {i : Instr} {s : State} {q : Reg} {off : BitVec 16} {n : Nat} {kind : AccessKind} {b : Word}
    (hi : accessOf i = some (q, off, n, kind)) (hq : s.reg q = some b) (hr : ∀ r ∈ readsOf i, s.reg r ≠ none) :
    Accesses (exec i s) s (effAddr b off) n kind := by
  cases i with
  | ldxw | ldxh | ldxb | ldxdw | ldxsw | ldxsh | ldxsb =>
    cases hi
    exact loadForm_accesses hq
  | stw | sth | stb | stdw =>
    cases hi
    exact storeImm_accesses hq
  | stxw | stxh | stxb | stxdw =>
    cases hi
    exact storeReg_accesses hq hr
  | atomicAdd32 | atomicOr32 | atomicAnd32 | atomicXor32 | atomicAdd64 | atomicOr64 | atomicAnd64 | atomicXor64 =>
    cases hi
    exact atomicPlain_accesses hq hr
  | atomicFetchAdd32 | atomicFetchOr32 | atomicFetchAnd32 | atomicFetchXor32 | atomicFetchAdd64 | atomicFetchOr64
  | atomicFetchAnd64 | atomicFetchXor64 | atomicXchg32 | atomicXchg64 =>
    cases hi
    exact atomicFetch_accesses hq hr
  | atomicCmpxchg32 | atomicCmpxchg64 =>
    cases hi
    exact atomicCompare_accesses hq hr
  | _ => cases hi

/-- Settles O39. -/
theorem accessFaultsInOrder : Obligations.AccessFaultsInOrder :=
  fun _ _ _ _ _ _ _ hi hq hr => exec_accesses hi hq hr

/-! ## A load after a store -/

/-- What is admitted does not depend on memory, registers or `pc` (R62). -/
theorem admits_store_advance (s : State) (x m : Nat) (v : Word) (a : Word) (n : Nat) (kind : AccessKind) :
    ((s.store x m v).advance 1).admits a n kind = s.admits a n kind := rfl

/-- A load of the width of a store, through the same register and offset, finds the low bytes of the stored value. -/
theorem loadForm_after_storeReg {s t : State} {d q r : Reg} {b v : Word} {off : BitVec 16} {n : Nat}
    (hd : s.reg d = some b) (hq : s.reg q = some v) (hstore : storeReg n d q off s = .next t)
    (hadmits : s.admits (effAddr b off) n .read = true) :
    loadForm n (fun x => x) r d off t = .next (t.updated r (wrap (8 * n) (uw (8 * n) v)) 1) := by
  have hwrite : s.accessible (effAddr b off) n .write :=
    (storeReg_accesses hd (by simp [hd, hq])).accessible hstore
  obtain rfl : (s.store (effAddr b off).toNat n v).advance 1 = t := by
    simpa [storeReg_accessible hd hq hwrite] using hstore
  have hread : ((s.store (effAddr b off).toNat n v).advance 1).accessible (effAddr b off) n .read :=
    ⟨(admits_store_advance ..).trans hadmits, fun hstrict => hwrite.2 (.inr (hstrict.resolve_left (by decide)))⟩
  have hbase : ((s.store (effAddr b off).toNat n v).advance 1).reg d = some b := hd
  rw [← valueAt_store_same s (effAddr b off).toNat n v, ← State.valueAt_advance _ 1]
  exact loadForm_accessible (fun x => x) hbase hread

/-- Settles O36. -/
theorem loadAfterStoreReturnsValue : Obligations.LoadAfterStoreReturnsValue := by
  intro s t d q r b v off hd hq
  exact ⟨loadForm_after_storeReg hd hq, loadForm_after_storeReg hd hq, loadForm_after_storeReg hd hq,
    loadForm_after_storeReg hd hq⟩

end Sys2Proof.Machine
end

section
/-! Proofs about which bytes of memory an instruction and the other agents' turn change (R64 to R68). -/

namespace Sys2Proof.Machine

/-! ## The bytes that an instruction changes -/

/-- Outside CALL and EXIT an instruction changes no byte, or it is a store or an atomic and changes none outside the bytes
of its row in `accessOf`. -/
theorem Shape.memory {i : Instr} {s t : State} (h : Shape i s t) (hcall : isCallOrExit i = false) :
    (∀ x, t.byteAt x = s.byteAt x) ∨
      ∃ q off n kind b, accessOf i = some (q, off, n, kind) ∧ s.reg q = some b ∧ kind ≠ .read ∧
        ∀ x, x < (effAddr b off).toNat ∨ (effAddr b off).toNat + n ≤ x → t.byteAt x = s.byteAt x := by
  cases h with
  | result d v _ _ _ _ _ _ ht => exact .inl fun _ => ht ▸ rfl
  | resultWide d v _ _ _ _ _ _ ht => exact .inl fun _ => ht ▸ rfl
  | branch taken off _ _ _ _ ht => exact .inl fun x => ht ▸ s.byteAt_branch taken off x
  | jump n _ _ _ _ ht => exact .inl fun _ => ht ▸ rfl
  | store q off n kind b v _ ha hk hb _ _ _ _ ht =>
    exact .inr ⟨q, off, n, kind, b, ha, hb, hk, ht ▸ s.byteAt_store_outside _ n v⟩
  | fetch q off n b v r old _ ha hb _ _ _ _ _ ht =>
    exact .inr ⟨q, off, n, .atomic, b, ha, hb, by decide, ht ▸ s.byteAt_store_outside _ n v⟩
  | helper _ _ _ _ hc => simp [hc] at hcall
  | call _ _ _ hc => simp [hc] at hcall
  | finish _ _ _ _ hc => simp [hc] at hcall
  | leave _ _ _ _ hc => simp [hc] at hcall

/-- Settles O46. -/
theorem memoryFrame : Obligations.MemoryFrame := by
  intro i s t x h hcall
  rcases (exec_shape h).memory hcall with hkept | ⟨q, off, n, kind, b, ha, hb, hkind, hkept⟩
  · exact ⟨fun _ _ _ _ _ _ _ _ => hkept x, fun _ => hkept x⟩
  · refine ⟨fun q' off' n' kind' b' ha' hb' hx => ?_, fun hnone => by simp [ha] at hnone⟩
    obtain ⟨rfl, rfl, rfl, rfl⟩ : q = q' ∧ off = off' ∧ n = n' ∧ kind = kind' := by simpa [ha] using ha'
    obtain rfl : b = b' := by simpa [hb] using hb'
    exact hkept x (hx.resolve_left hkind)

/-! ## The other agents' turn -/

theorem envMayWrite_eq_false {s : State} {a : Nat}
    (h : s.inLiveStack a 1 = true ∨ ∀ r ∈ s.plat.shared, ¬(r.1 ≤ a ∧ a < r.1 + r.2)) : s.envMayWrite a = false := by
  rcases h with hlive | hshared
  · simp [State.envMayWrite, hlive]
  · rw [State.envMayWrite, Bool.and_eq_false_iff]
    refine .inl (List.any_eq_false.2 fun r hr => ?_)
    simpa using hshared r hr

/-- A byte that the other agents may not write reads as before their turn. -/
theorem byteAt_envTurn {s : State} {a : Nat} (h : s.envMayWrite a = false) : s.envTurn.byteAt a = s.byteAt a := by
  refine State.byteAt_congr a ?_ s.envTurn_draws s.envTurn_plat
  unfold State.envTurn
  split
  · rfl
  · refine Memory.get_putAll_other _ _ _ fun w hw hwa => ?_
    have hmay : s.envMayWrite w.1.toNat = true := by simpa using (List.mem_filter.1 hw).2
    simp [hwa, h] at hmay

/-- Settles O56. -/
theorem otherAgentsTouchSharedMemoryOnly : Obligations.OtherAgentsTouchSharedMemoryOnly := by
  refine fun s => ⟨?_, fun a ha => byteAt_envTurn (envMayWrite_eq_false ha)⟩
  obtain ⟨_, _, _, _, _, _, _, env, _, _⟩ := s
  cases env <;> rfl

end Sys2Proof.Machine
end

section
/-! Proofs about the host's byte order, which matters to memory and to the le and be swaps only (R55, R212): each other
form of an instruction answers the same on a host of either order. -/

namespace Sys2Proof.Machine

/-! ## The forms -/

/-- An outcome, with the next state on a host of the given byte order. -/
def outOnHost (e : Endian) : Out → Out
  | .next t => .next (t.onHost e)
  | .fault f => .fault f
  | .refused r => .refused r

section

variable (e : Endian) (s : State)

theorem readReg_onHost (r : Reg) {k k' : Word → Out} (hk : ∀ v, k' v = outOnHost e (k v)) :
    readReg (s.onHost e) r k' = outOnHost e (readReg s r k) := by
  have hr : (s.onHost e).reg r = s.reg r := rfl
  cases h : s.reg r with
  | none => rw [readReg_none h, readReg_none (hr.trans h)]; rfl
  | some v => rw [readReg_some h, readReg_some (hr.trans h), hk]

theorem operand64_onHost (o : Operand) {k k' : BitVec 64 → Out} (hk : ∀ v, k' v = outOnHost e (k v)) :
    operand64 (s.onHost e) o k' = outOnHost e (operand64 s o k) := by
  cases o with
  | imm v => exact hk _
  | reg r => exact readReg_onHost e s r hk

theorem operand32_onHost (o : Operand) {k k' : BitVec 32 → Out} (hk : ∀ v, k' v = outOnHost e (k v)) :
    operand32 (s.onHost e) o k' = outOnHost e (operand32 s o k) := by
  cases o with
  | imm v => exact hk v
  | reg r => exact readReg_onHost e s r fun v => hk _

theorem alu64_onHost (f : BitVec 64 → BitVec 64 → BitVec 64) (d : Reg) (o : Operand) :
    alu64 f d o (s.onHost e) = outOnHost e (alu64 f d o s) :=
  readReg_onHost e s d fun _ => operand64_onHost e s o fun _ => rfl

theorem alu32_onHost (f : BitVec 32 → BitVec 32 → BitVec 32) (d : Reg) (o : Operand) :
    alu32 f d o (s.onHost e) = outOnHost e (alu32 f d o s) :=
  readReg_onHost e s d fun _ => operand32_onHost e s o fun _ => rfl

theorem branch_onHost (taken : Bool) (off : BitVec 16) :
    (s.onHost e).branch taken off = (s.branch taken off).onHost e := by
  cases taken <;> rfl

theorem jump64_onHost (c : BitVec 64 → BitVec 64 → Bool) (d : Reg) (o : Operand) (off : BitVec 16) :
    jump64 c d o off (s.onHost e) = outOnHost e (jump64 c d o off s) :=
  readReg_onHost e s d fun _ => operand64_onHost e s o fun _ => congrArg _ (branch_onHost e s _ off)

theorem jump32_onHost (c : BitVec 32 → BitVec 32 → Bool) (d : Reg) (o : Operand) (off : BitVec 16) :
    jump32 c d o off (s.onHost e) = outOnHost e (jump32 c d o off s) :=
  readReg_onHost e s d fun _ => operand32_onHost e s o fun _ => congrArg _ (branch_onHost e s _ off)

/-- The moves of a register, the negations and the unconditional swaps: one register is read, one is written. -/
theorem readReg_result_onHost (r d : Reg) (f : Word → Word) :
    readReg (s.onHost e) r (fun v => .next ((s.onHost e).result d (f v))) =
      outOnHost e (readReg s r fun v => .next (s.result d (f v))) :=
  readReg_onHost e s r fun _ => rfl

theorem platformValue_onHost (v : Option Word) {k k' : Word → Out} (hk : ∀ a, k' a = outOnHost e (k a)) :
    platformValue v k' = outOnHost e (platformValue v k) := by
  cases v with
  | none => rfl
  | some a => exact hk a

theorem platformForm_onHost (v : Option Word) (d : Reg) :
    platformForm v d (s.onHost e) = outOnHost e (platformForm v d s) :=
  platformValue_onHost e v fun _ => rfl

theorem mapValueForm_onHost (m : Option Word) (d : Reg) (nx : BitVec 32) :
    mapValueForm m d nx (s.onHost e) = outOnHost e (mapValueForm m d nx s) :=
  platformValue_onHost e m fun _ => platformValue_onHost e _ fun _ => rfl

theorem callPlatform_onHost (ref : HelperRef) (id : Int) :
    callPlatform (s.onHost e) ref id = outOnHost e (callPlatform s ref id) := by
  have hcall : (s.onHost e).platformCall ref = s.platformCall ref := rfl
  unfold callPlatform
  rw [hcall]
  split <;> rfl

theorem callFrame_onHost (imm : Int) : callFrame (s.onHost e) imm = outOnHost e (callFrame s imm) := by
  unfold callFrame
  rw [apply_ite (outOnHost e)]
  rfl

theorem exitFrame_onHost : exitFrame (s.onHost e) = outOnHost e (exitFrame s) := by
  refine readReg_onHost e s .r0 fun v => ?_
  have hframes : (s.onHost e).frames = s.frames := rfl
  rw [hframes]
  split <;> rfl

end

/-! ## The instructions -/

/-- An instruction that accesses no memory and is no le or be swap does not look at the host's byte order. -/
theorem exec_onHost {i : Instr} (hi : accessOf i = none) (hle : opcodeOf i ≠ 0xd4) (hbe : opcodeOf i ≠ 0xdc) (e : Endian)
    (s : State) : exec i (s.onHost e) = outOnHost e (exec i s) := by
  cases i with
  | add32Imm | sub32Imm | mul32Imm | div32Imm | sdiv32Imm | or32Imm | and32Imm | lsh32Imm | rsh32Imm | mod32Imm
  | smod32Imm | xor32Imm | arsh32Imm | add32Reg | sub32Reg | mul32Reg | div32Reg | sdiv32Reg | or32Reg | and32Reg
  | lsh32Reg | rsh32Reg | mod32Reg | smod32Reg | xor32Reg | arsh32Reg =>
    exact alu32_onHost e s _ _ _
  | add64Imm | sub64Imm | mul64Imm | div64Imm | sdiv64Imm | or64Imm | and64Imm | lsh64Imm | rsh64Imm | mod64Imm
  | smod64Imm | xor64Imm | arsh64Imm | add64Reg | sub64Reg | mul64Reg | div64Reg | sdiv64Reg | or64Reg | and64Reg
  | lsh64Reg | rsh64Reg | mod64Reg | smod64Reg | xor64Reg | arsh64Reg =>
    exact alu64_onHost e s _ _ _
  | mov32Reg | mov64Reg | neg32 | neg64 | movsx32From8 | movsx32From16 | movsx64From8 | movsx64From16 | movsx64From32
  | bswap16 | bswap32 | bswap64 =>
    exact readReg_result_onHost e s _ _ _
  | le16 | le32 | le64 => exact absurd (opcode_word _) hle
  | be16 | be32 | be64 => exact absurd (opcode_word _) hbe
  | jeq32Imm | jgt32Imm | jge32Imm | jset32Imm | jne32Imm | jsgt32Imm | jsge32Imm | jlt32Imm | jle32Imm | jslt32Imm
  | jsle32Imm | jeq32Reg | jgt32Reg | jge32Reg | jset32Reg | jne32Reg | jsgt32Reg | jsge32Reg | jlt32Reg | jle32Reg
  | jslt32Reg | jsle32Reg =>
    exact jump32_onHost e s _ _ _ _
  | jeq64Imm | jgt64Imm | jge64Imm | jset64Imm | jne64Imm | jsgt64Imm | jsge64Imm | jlt64Imm | jle64Imm | jslt64Imm
  | jsle64Imm | jeq64Reg | jgt64Reg | jge64Reg | jset64Reg | jne64Reg | jsgt64Reg | jsge64Reg | jlt64Reg | jle64Reg
  | jslt64Reg | jsle64Reg =>
    exact jump64_onHost e s _ _ _ _
  | callHelper | callBtf => exact callPlatform_onHost e s _ _
  | callLocal => exact callFrame_onHost e s _
  | exit => exact exitFrame_onHost e s
  | ldMapFd | ldVarAddr | ldCodeAddr | ldMapIdx => exact platformForm_onHost e s _ _
  | ldMapFdVal | ldMapIdxVal => exact mapValueForm_onHost e s _ _ _
  | mov32Imm | mov64Imm | ja | ja32 | lddw | ldabsw | ldabsh | ldabsb | ldindw | ldindh | ldindb => rfl
  | _ => cases hi

/-- Settles O49. -/
theorem hostOrderIrrelevant : Obligations.HostOrderIrrelevant := by
  intro i s t e hi hle hbe h
  rw [exec_onHost hi hle hbe, h]
  rfl

end Sys2Proof.Machine
end

section
/-! Proofs about words and slots (R91 to R93): the parts of a word, the two byte layouts of a slot, and the conformance
groups that a platform supports (R121). -/

namespace Sys2Proof

/-! ## The parts of a word -/

/-- A part of a part of a word is a part of the word. -/
theorem extractLsb'_extractLsb' {w start len base len' : Nat} (x : BitVec w) (h : start + len ≤ len') :
    (x.extractLsb' base len').extractLsb' start len = x.extractLsb' (base + start) len := by
  ext i hi
  have hlt : start + i < len' := by omega
  simp [hlt, Nat.add_assoc]

/-- Every bit of a word belongs to one of its fields (R91). -/
theorem word_fieldsOf (w : BitVec 64) : (fieldsOf w).word = w := by
  simp (disch := rfl) only [Fields.word, fieldsOf, BitVec.extractLsb'_append_extractLsb'_eq_extractLsb']
  exact BitVec.extractLsb'_eq_self

/-! ## The bytes of a slot -/

/-- The slot that holds a word on a host reads as that word on the same host (R92, R93). -/
@[simp] theorem Slot.word_ofWord (e : Endian) (w : BitVec 64) : (Slot.ofWord e w).word e = w := by
  cases e with
  | little =>
    simp (disch := rfl) only [Slot.word, Slot.ofWord, BitVec.extractLsb'_append_extractLsb'_eq_extractLsb']
    exact BitVec.extractLsb'_eq_self
  | big =>
    have hlow (a b : BitVec 4) : (a ++ b : BitVec 8).extractLsb' 0 4 = b := BitVec.extractLsb'_append_eq_right
    have hhigh (a b : BitVec 4) : (a ++ b : BitVec 8).extractLsb' 4 4 = a := BitVec.extractLsb'_append_eq_left
    simp (disch := rfl) only [Slot.word, Slot.ofWord, hlow, hhigh,
      BitVec.extractLsb'_append_extractLsb'_eq_extractLsb']
    exact BitVec.extractLsb'_eq_self

/-- The bytes of the fields on a little-endian host: `src ++ dst`, and low bytes first (R93). -/
theorem Slot.ofWord_little_word (f : Fields) :
    Slot.ofWord .little f.word =
      ⟨f.opcode, f.src ++ f.dst, f.offset.extractLsb' 0 8, f.offset.extractLsb' 8 8,
        f.imm.extractLsb' 0 8, f.imm.extractLsb' 8 8, f.imm.extractLsb' 16 8, f.imm.extractLsb' 24 8⟩ := by
  conv_rhs => rw [← Laws.fieldsOf_word f]
  simp (disch := decide) only [Slot.ofWord, fieldsOf, BitVec.extractLsb'_append_extractLsb'_eq_extractLsb',
    extractLsb'_extractLsb']

/-- The bytes of the fields on a big-endian host: `dst ++ src`, and high bytes first (R93). -/
theorem Slot.ofWord_big_word (f : Fields) :
    Slot.ofWord .big f.word =
      ⟨f.opcode, f.dst ++ f.src, f.offset.extractLsb' 8 8, f.offset.extractLsb' 0 8,
        f.imm.extractLsb' 24 8, f.imm.extractLsb' 16 8, f.imm.extractLsb' 8 8, f.imm.extractLsb' 0 8⟩ := by
  conv_rhs => rw [← Laws.fieldsOf_word f]
  simp (disch := decide) only [Slot.ofWord, fieldsOf, extractLsb'_extractLsb']

/-- Settles O3. -/
theorem slotBytesOfFields : Obligations.SlotBytesOfFields := fun f =>
  ⟨Slot.ofWord_little_word f, Slot.ofWord_big_word f, fun e => Slot.word_ofWord e f.word⟩

/-- Settles O4, by evaluating the decoder on each word. -/
theorem specWordsDecode : Obligations.SpecWordsDecode :=
  ⟨rfl, rfl, rfl, rfl, rfl, rfl, rfl, rfl, rfl⟩

/-! ## Conformance groups -/

/-- A platform supports the groups that it lists and the smaller ones that these include (R121). -/
theorem supports_iff (gs : List Group) (g : Group) :
    supports gs g = true ↔
      g ∈ gs ∨ (g = .base32 ∧ .base64 ∈ gs) ∨ (g = .atomic32 ∧ .atomic64 ∈ gs) ∨ (g = .divmul32 ∧ .divmul64 ∈ gs) := by
  cases g <;> simp [supports]

/-- Settles O5. -/
theorem groupsFilterDecoding : Obligations.GroupsFilterDecoding := by
  intro p a b i h
  have hfor : decodeFor p a b = if supports p.groups i.group then .ok i else .error .unsupportedGroup := by
    rw [decodeFor, h, groupCheck]
  constructor
  · intro hg
    rw [hfor, if_pos ((supports_iff _ _).mpr hg)]
  · intro hlisted hbase hatomic hdivmul
    have hg : ¬supports p.groups i.group = true := by
      rw [supports_iff]
      exact not_or.mpr ⟨hlisted, not_or.mpr ⟨hbase, not_or.mpr ⟨hatomic, hdivmul⟩⟩⟩
    rw [hfor, if_neg hg]

end Sys2Proof
end

section
/-! Decoding the bytes that the encoder writes gives the instruction back (R91 to R96, R118). The round trip of each
instruction's words is in Laws/PerInstr.lean; here it is carried to bytes and to any bytes after them. -/

namespace Sys2Proof

/-- The encoder writes a second slot for the instructions of two slots, and only for these (R96). -/
theorem encode_second_eq_none_iff (i : Instr) : (encode i).2 = none ↔ i.slots ≠ 2 := by
  have hsome : (encode i).2.isSome = (i.slots == 2) := by cases i <;> rfl
  rw [← Option.not_isSome_iff_eq_none, hsome, beq_iff_eq]

namespace Laws.RoundTrip

/-- The round trip of every well-formed instruction's words (R91, R118), from that of each instruction. -/
theorem decodeWords_encode (i : Instr) : Statement i := by
  exact Instr.rec add32Imm add32Reg add64Imm add64Reg sub32Imm sub32Reg sub64Imm sub64Reg mul32Imm mul32Reg mul64Imm
    mul64Reg div32Imm div32Reg div64Imm div64Reg sdiv32Imm sdiv32Reg sdiv64Imm sdiv64Reg or32Imm or32Reg or64Imm
    or64Reg and32Imm and32Reg and64Imm and64Reg lsh32Imm lsh32Reg lsh64Imm lsh64Reg rsh32Imm rsh32Reg rsh64Imm
    rsh64Reg mod32Imm mod32Reg mod64Imm mod64Reg smod32Imm smod32Reg smod64Imm smod64Reg xor32Imm xor32Reg xor64Imm
    xor64Reg mov32Imm mov32Reg mov64Imm mov64Reg arsh32Imm arsh32Reg arsh64Imm arsh64Reg neg32 neg64 movsx32From8
    movsx32From16 movsx64From8 movsx64From16 movsx64From32 le16 le32 le64 be16 be32 be64 bswap16 bswap32 bswap64 ja
    ja32 jeq64Imm jeq64Reg jeq32Imm jeq32Reg jgt64Imm jgt64Reg jgt32Imm jgt32Reg jge64Imm jge64Reg jge32Imm jge32Reg
    jset64Imm jset64Reg jset32Imm jset32Reg jne64Imm jne64Reg jne32Imm jne32Reg jsgt64Imm jsgt64Reg jsgt32Imm
    jsgt32Reg jsge64Imm jsge64Reg jsge32Imm jsge32Reg jlt64Imm jlt64Reg jlt32Imm jlt32Reg jle64Imm jle64Reg jle32Imm
    jle32Reg jslt64Imm jslt64Reg jslt32Imm jslt32Reg jsle64Imm jsle64Reg jsle32Imm jsle32Reg callHelper callLocal
    callBtf exit ldxw ldxh ldxb ldxdw ldxsw ldxsh ldxsb stw sth stb stdw stxw stxh stxb stxdw atomicAdd32
    atomicFetchAdd32 atomicOr32 atomicFetchOr32 atomicAnd32 atomicFetchAnd32 atomicXor32 atomicFetchXor32 atomicAdd64
    atomicFetchAdd64 atomicOr64 atomicFetchOr64 atomicAnd64 atomicFetchAnd64 atomicXor64 atomicFetchXor64 atomicXchg32
    atomicXchg64 atomicCmpxchg32 atomicCmpxchg64 lddw ldMapFd ldMapFdVal ldVarAddr ldCodeAddr ldMapIdx ldMapIdxVal
    ldabsw ldabsh ldabsb ldindw ldindh ldindb i

end Laws.RoundTrip

/-- Where no second slot was needed, whatever follows is not looked at (R96). -/
theorem decodeFields_of_none {f : Fields} {i : Instr} (h : decodeFields f none = .ok i) (second : Option (BitVec 64)) :
    decodeFields f second = .ok i := by
  unfold decodeFields decodeLd at h ⊢
  split at h
  · split at h
    · cases h
    all_goals exact h
  all_goals exact h

/-! ## Bytes -/

theorem takeSlot_bytes (s : Slot) (rest : List Byte) : takeSlot (s.bytes ++ rest) = some (s, rest) := rfl

/-- An instruction of one slot leaves the bytes after that slot. -/
theorem decodeBytes_oneSlot {e : Endian} {s : Slot} {rest : List Byte} {i : Instr}
    (h : decodeSlots e s ((takeSlot rest).map Prod.fst) = .ok i) (hi : i.slots ≠ 2) :
    decodeBytes e (s.bytes ++ rest) = .ok (i, rest) := by
  simp [decodeBytes, takeSlot_bytes, h, hi]

/-- An instruction of two slots leaves the bytes after the second. -/
theorem decodeBytes_twoSlots {e : Endian} {s second : Slot} {rest : List Byte} {i : Instr}
    (h : decodeSlots e s (some second) = .ok i) (hi : i.slots = 2) :
    decodeBytes e (s.bytes ++ (second.bytes ++ rest)) = .ok (i, rest) := by
  have hdrop : (second.bytes ++ rest).drop 8 = rest := rfl
  simp [decodeBytes, takeSlot_bytes, h, hi, hdrop]

/-- Settles O1, by the words of the one slot or of the two. -/
theorem decodingBytesUndoesEncoding : Obligations.DecodingBytesUndoesEncoding := by
  intro e i rest hwf
  have hwords := Laws.RoundTrip.decodeWords_encode i hwf
  unfold encodeBytes
  cases hsecond : (encode i).2 with
  | none =>
    rw [hsecond] at hwords
    rw [List.append_nil]
    refine decodeBytes_oneSlot ?_ ((encode_second_eq_none_iff i).mp hsecond)
    rw [decodeSlots, Slot.word_ofWord]
    exact decodeFields_of_none hwords _
  | some w =>
    rw [hsecond] at hwords
    rw [List.append_assoc]
    have htwo : i.slots = 2 := by
      by_contra hone
      cases hsecond.symm.trans ((encode_second_eq_none_iff i).mpr hone)
    refine decodeBytes_twoSlots ?_ htwo
    rw [decodeSlots, Option.map_some, Slot.word_ofWord, Slot.word_ofWord]
    exact hwords

end Sys2Proof
end

section
/-! What decodes is encoded back to the same bits (R91, R109, R118 to R120). The proof follows the decoder's own layout: the
parts of the opcode byte that were matched are the whole byte, each form checks the fields that it does not use, and
the register checks give the rest; so the encoder, given what was decoded, writes the word's own fields. -/

namespace Sys2Proof

/-! ## The fields that the decoder has matched -/

theorem code_of_regOf {n : BitVec 4} {r : Reg} (h : regOf n = some r) : n = r.code := by
  have hall : ∀ n : BitVec 4, ∀ r ∈ regOf n, n = r.code := by decide
  exact hall n r h

theorem eq_ofNat_of_toNat {w n : Nat} {x : BitVec w} (h : x.toNat = n) : x = BitVec.ofNat w n :=
  (BitVec.toNat_eq_nat.mp h).2

/-- The opcode byte of the arithmetic and jump classes, of its code, source and class (R97, R99). -/
def arithOpcode (code : Nat) (x : Bool) (cls : Nat) : BitVec 8 :=
  BitVec.ofNat 4 code ++ BitVec.ofBool x ++ BitVec.ofNat 3 cls

/-- The opcode byte of the load and store classes, of its mode, size and class (R97, R104). -/
def memOpcode (mode sz cls : Nat) : BitVec 8 := BitVec.ofNat 3 mode ++ BitVec.ofNat 2 sz ++ BitVec.ofNat 3 cls

theorem Fields.opcode_eq_arith {f : Fields} {code cls : Nat} {x : Bool} (hcls : f.cls = cls) (hcode : f.code = code)
    (hx : f.isX = x) : f.opcode = arithOpcode code x cls := by
  have hbit : ∀ b : BitVec 1, BitVec.ofBool (b.toNat == 1) = b := by decide
  subst hcls hcode hx
  simp (disch := rfl) only [arithOpcode, Fields.code, Fields.isX, Fields.cls, hbit, BitVec.ofNat_toNat,
    BitVec.setWidth_eq, BitVec.extractLsb'_append_extractLsb'_eq_extractLsb']
  exact BitVec.extractLsb'_eq_self.symm

theorem Fields.opcode_eq_mem {f : Fields} {mode sz cls : Nat} (hcls : f.cls = cls) (hmode : f.mode = mode)
    (hsz : f.sz = sz) : f.opcode = memOpcode mode sz cls := by
  subst hcls hmode hsz
  simp (disch := rfl) only [memOpcode, Fields.mode, Fields.sz, Fields.cls, BitVec.ofNat_toNat, BitVec.setWidth_eq,
    BitVec.extractLsb'_append_extractLsb'_eq_extractLsb']
  exact BitVec.extractLsb'_eq_self.symm

/-- A second slot whose low half is zero is the word of its high half (R96). -/
theorem second_of_low_zero {w : BitVec 64} (h : w.extractLsb' 0 32 = 0) :
    Fields.word ⟨0, 0, 0, 0, w.extractLsb' 32 32⟩ = w := by
  have hpart (start len : Nat) (hle : start + len ≤ 32) : w.extractLsb' start len = 0 := by
    rw [← BitVec.extractLsb'_extractLsb'_of_le hle, h]
    exact BitVec.extractLsb'_zero
  conv_rhs => rw [← word_fieldsOf w, fieldsOf]
  rw [hpart 0 8 (by decide), hpart 8 4 (by decide), hpart 12 4 (by decide), hpart 16 16 (by decide)]

/-! ## Parts of the decoder -/

/-- What a part of the decoder answers, if it answers an instruction, is encoded as the word of the fields, alone or with
the word after it. -/
def EncodesBack (f : Fields) (second : Option (BitVec 64)) (e : Except Illegal Instr) : Prop :=
  ∀ i, e = .ok i → (encode i).1 = f.word ∧ ((encode i).2 = none ∨ (encode i).2 = second)

namespace EncodesBack

section

variable {f : Fields} {second : Option (BitVec 64)} {e e' : Except Illegal Instr} {p : Prop} [Decidable p]

theorem error (why : Illegal) : EncodesBack f second (.error why) := fun _ h => by cases h

/-- The answer of a row, where each field of the word is as the row's encoding has it. A row of one slot has no second
word; a wide row passes `hw`. -/
theorem ok {op : BitVec 8} {d s : BitVec 4} {o : BitVec 16} {v : BitVec 32} {w : Option (BitVec 64)} {i : Instr}
    (hop : f.opcode = op) (hd : f.dst = d) (hs : f.src = s) (ho : f.offset = o) (hv : f.imm = v)
    (hi : encode i = (Fields.word ⟨op, d, s, o, v⟩, w)) (hw : w = none ∨ w = second := by exact .inl rfl) :
    EncodesBack f second (.ok i) := by
  subst hop hd hs ho hv
  intro j hj
  obtain rfl := Except.ok.inj hj
  rw [hi]
  exact ⟨rfl, hw⟩

theorem ite (h : p → EncodesBack f second e) (h' : ¬p → EncodesBack f second e') :
    EncodesBack f second (if p then e else e') := by
  split
  · exact h ‹_›
  · exact h' ‹_›

/-- A check in front of a form: the form may use that the check was passed. -/
theorem check {why : Illegal} (h : ¬p → EncodesBack f second e) : EncodesBack f second (if p then .error why else e) :=
  ite (fun _ => error why) h

/-- The check that a field is zero. -/
theorem zero {w : Nat} {x : BitVec w} {why : Illegal} (h : x = 0 → EncodesBack f second e) :
    EncodesBack f second (if x ≠ 0 then .error why else e) :=
  check fun hx => h (not_not.mp hx)

theorem readable {n : BitVec 4} {k : Reg → Except Illegal Instr} (h : ∀ r, n = r.code → EncodesBack f second (k r)) :
    EncodesBack f second (readable n k) := by
  unfold Sys2Proof.readable
  split
  · exact h _ (code_of_regOf ‹_›)
  · exact error _

theorem writable {n : BitVec 4} {k : Reg → Except Illegal Instr} (h : ∀ r, n = r.code → EncodesBack f second (k r)) :
    EncodesBack f second (writable n k) := by
  unfold Sys2Proof.writable
  split
  · exact ite (fun _ => h _ (code_of_regOf ‹_›)) fun _ => error _
  · exact error _

/-- The choice by the source bit. -/
theorem source {code cls : Nat} (hcls : f.cls = cls) (hcode : f.code = code)
    (hx : f.isX = true → f.opcode = arithOpcode code true cls → EncodesBack f second e)
    (hk : f.opcode = arithOpcode code false cls → EncodesBack f second e') :
    EncodesBack f second (if f.isX then e else e') :=
  ite (fun h => hx h (Fields.opcode_eq_arith hcls hcode h))
    fun h => hk (Fields.opcode_eq_arith hcls hcode (Bool.eq_false_of_not_eq_true h))

end

/-! ## The forms

The hypotheses about the constructors of a form's rows say which fields the encoder writes for them; for a constructor of
the instruction set each of them is an equation of `encode`. -/

section

variable {f : Fields} {second : Option (BitVec 64)} {code mode sz cls : Nat} {off : BitVec 16}

theorem srcForm (hcls : f.cls = cls) (hcode : f.code = code) (hoff : f.offset = off)
    {k : Reg → BitVec 32 → Instr} {x : Reg → Reg → Instr}
    (hk : ∀ d v, encode (k d v) = (Fields.word ⟨arithOpcode code false cls, d.code, 0, off, v⟩, none) := by
      exact fun _ _ => rfl)
    (hx : ∀ d r, encode (x d r) = (Fields.word ⟨arithOpcode code true cls, d.code, r.code, off, 0⟩, none) := by
      exact fun _ _ => rfl) :
    EncodesBack f second (srcForm f k x) :=
  source hcls hcode
    (fun _ hop => zero fun hv => writable fun d hd => readable fun r hr => ok hop hd hr hoff hv (hx d r))
    (fun hop => zero fun hs => writable fun d hd => ok hop hd hs hoff rfl (hk d _))

theorem aluForm (hcls : f.cls = cls) (hcode : f.code = code) {k : Reg → BitVec 32 → Instr} {x : Reg → Reg → Instr}
    (hk : ∀ d v, encode (k d v) = (Fields.word ⟨arithOpcode code false cls, d.code, 0, 0, v⟩, none) := by
      exact fun _ _ => rfl)
    (hx : ∀ d r, encode (x d r) = (Fields.word ⟨arithOpcode code true cls, d.code, r.code, 0, 0⟩, none) := by
      exact fun _ _ => rfl) :
    EncodesBack f second (aluForm f k x) :=
  zero fun hoff => srcForm hcls hcode hoff hk hx

theorem divForm (hcls : f.cls = cls) (hcode : f.code = code)
    {k sk : Reg → BitVec 32 → Instr} {x sx : Reg → Reg → Instr}
    (hk : ∀ d v, encode (k d v) = (Fields.word ⟨arithOpcode code false cls, d.code, 0, 0, v⟩, none) := by
      exact fun _ _ => rfl)
    (hx : ∀ d r, encode (x d r) = (Fields.word ⟨arithOpcode code true cls, d.code, r.code, 0, 0⟩, none) := by
      exact fun _ _ => rfl)
    (hsk : ∀ d v, encode (sk d v) = (Fields.word ⟨arithOpcode code false cls, d.code, 0, 1, v⟩, none) := by
      exact fun _ _ => rfl)
    (hsx : ∀ d r, encode (sx d r) = (Fields.word ⟨arithOpcode code true cls, d.code, r.code, 1, 0⟩, none) := by
      exact fun _ _ => rfl) :
    EncodesBack f second (divForm f k x sk sx) :=
  ite (fun hoff => srcForm hcls hcode hoff hk hx) fun _ =>
    ite (fun hoff => srcForm hcls hcode hoff hsk hsx) fun _ => error _

theorem negForm (hcls : f.cls = cls) (hcode : f.code = code) {mk : Reg → Instr}
    (h : ∀ d, encode (mk d) = (Fields.word ⟨arithOpcode code false cls, d.code, 0, 0, 0⟩, none) := by
      exact fun _ => rfl) :
    EncodesBack f second (negForm f mk) := by
  refine source hcls hcode (fun _ _ => error _) fun hop => check fun hz => writable fun d hd => ?_
  obtain ⟨hs, ho, hv⟩ : f.src = 0 ∧ f.offset = 0 ∧ f.imm = 0 := by simpa using hz
  exact ok hop hd hs ho hv (h d)

theorem moveForm (hop : f.opcode = arithOpcode code true cls) (hoff : f.offset = off) {x : Reg → Reg → Instr}
    (h : ∀ d r, encode (x d r) = (Fields.word ⟨arithOpcode code true cls, d.code, r.code, off, 0⟩, none) := by
      exact fun _ _ => rfl) :
    EncodesBack f second (moveForm f x) :=
  zero fun hv => writable fun d hd => readable fun r hr => ok hop hd hr hoff hv (h d r)

theorem endForm {op : BitVec 8} (hop : f.opcode = op) {m16 m32 m64 : Reg → Instr}
    (h16 : ∀ d, encode (m16 d) = (Fields.word ⟨op, d.code, 0, 0, 16⟩, none) := by exact fun _ => rfl)
    (h32 : ∀ d, encode (m32 d) = (Fields.word ⟨op, d.code, 0, 0, 32⟩, none) := by exact fun _ => rfl)
    (h64 : ∀ d, encode (m64 d) = (Fields.word ⟨op, d.code, 0, 0, 64⟩, none) := by exact fun _ => rfl) :
    EncodesBack f second (endForm f m16 m32 m64) := by
  refine check fun hz => ?_
  obtain ⟨hs, ho⟩ : f.src = 0 ∧ f.offset = 0 := by simpa using hz
  exact ite (fun hv => writable fun d hd => ok hop hd hs ho hv (h16 d)) fun _ =>
    ite (fun hv => writable fun d hd => ok hop hd hs ho hv (h32 d)) fun _ =>
      ite (fun hv => writable fun d hd => ok hop hd hs ho hv (h64 d)) fun _ => error _

theorem jccForm (hcls : f.cls = cls) (hcode : f.code = code)
    {k : Reg → BitVec 32 → BitVec 16 → Instr} {x : Reg → Reg → BitVec 16 → Instr}
    (hk : ∀ d v o, encode (k d v o) = (Fields.word ⟨arithOpcode code false cls, d.code, 0, o, v⟩, none) := by
      exact fun _ _ _ => rfl)
    (hx : ∀ d r o, encode (x d r o) = (Fields.word ⟨arithOpcode code true cls, d.code, r.code, o, 0⟩, none) := by
      exact fun _ _ _ => rfl) :
    EncodesBack f second (jccForm f k x) :=
  source hcls hcode
    (fun _ hop => zero fun hv => readable fun d hd => readable fun r hr => ok hop hd hr rfl hv (hx d r _))
    (fun hop => zero fun hs => readable fun d hd => ok hop hd hs rfl rfl (hk d _ _))

theorem ldxForm (hcls : f.cls = cls) (hmode : f.mode = mode) (hsz : f.sz = sz) {mk : Reg → Reg → BitVec 16 → Instr}
    (h : ∀ d r o, encode (mk d r o) = (Fields.word ⟨memOpcode mode sz cls, d.code, r.code, o, 0⟩, none) := by
      exact fun _ _ _ => rfl) :
    EncodesBack f second (ldxForm f mk) :=
  zero fun hv => writable fun d hd => readable fun r hr =>
    ok (Fields.opcode_eq_mem hcls hmode hsz) hd hr rfl hv (h d r _)

theorem stForm (hcls : f.cls = cls) (hmode : f.mode = mode) (hsz : f.sz = sz) {mk : Reg → BitVec 16 → BitVec 32 → Instr}
    (h : ∀ d o v, encode (mk d o v) = (Fields.word ⟨memOpcode mode sz cls, d.code, 0, o, v⟩, none) := by
      exact fun _ _ _ => rfl) :
    EncodesBack f second (stForm f mk) :=
  zero fun hs => readable fun d hd => ok (Fields.opcode_eq_mem hcls hmode hsz) hd hs rfl rfl (h d _ _)

theorem stxForm (hcls : f.cls = cls) (hmode : f.mode = mode) (hsz : f.sz = sz) {mk : Reg → Reg → BitVec 16 → Instr}
    (h : ∀ d r o, encode (mk d r o) = (Fields.word ⟨memOpcode mode sz cls, d.code, r.code, o, 0⟩, none) := by
      exact fun _ _ _ => rfl) :
    EncodesBack f second (stxForm f mk) :=
  zero fun hv => readable fun d hd => readable fun r hr =>
    ok (Fields.opcode_eq_mem hcls hmode hsz) hd hr rfl hv (h d r _)

theorem atomicForm {op : BitVec 8} {v : Nat} (hop : f.opcode = op) (hv : f.imm.toNat = v)
    {mk : Reg → Reg → BitVec 16 → Instr}
    (h : ∀ d r o, encode (mk d r o) = (Fields.word ⟨op, d.code, r.code, o, BitVec.ofNat 32 v⟩, none) := by
      exact fun _ _ _ => rfl) :
    EncodesBack f second (atomicForm f mk) :=
  readable fun d hd => readable fun r hr => ok hop hd hr rfl (eq_ofNat_of_toNat hv) (h d r _)

theorem fetchForm {op : BitVec 8} {v : Nat} (hop : f.opcode = op) (hv : f.imm.toNat = v)
    {mk : Reg → Reg → BitVec 16 → Instr}
    (h : ∀ d r o, encode (mk d r o) = (Fields.word ⟨op, d.code, r.code, o, BitVec.ofNat 32 v⟩, none) := by
      exact fun _ _ _ => rfl) :
    EncodesBack f second (fetchForm f mk) :=
  readable fun d hd => writable fun r hr => ok hop hd hr rfl (eq_ofNat_of_toNat hv) (h d r _)

theorem absForm (hcls : f.cls = cls) (hmode : f.mode = mode) (hsz : f.sz = sz) {mk : BitVec 32 → Instr}
    (h : ∀ v, encode (mk v) = (Fields.word ⟨memOpcode mode sz cls, 0, 0, 0, v⟩, none) := by exact fun _ => rfl) :
    EncodesBack f second (absForm f mk) := by
  refine check fun hz => ?_
  obtain ⟨hd, hs, ho⟩ : f.dst = 0 ∧ f.src = 0 ∧ f.offset = 0 := by simpa using hz
  exact ok (Fields.opcode_eq_mem hcls hmode hsz) hd hs ho rfl (h _)

theorem indForm (hcls : f.cls = cls) (hmode : f.mode = mode) (hsz : f.sz = sz) {mk : Reg → BitVec 32 → Instr}
    (h : ∀ r v, encode (mk r v) = (Fields.word ⟨memOpcode mode sz cls, 0, r.code, 0, v⟩, none) := by
      exact fun _ _ => rfl) :
    EncodesBack f second (indForm f mk) := by
  refine check fun hz => ?_
  obtain ⟨hd, ho⟩ : f.dst = 0 ∧ f.offset = 0 := by simpa using hz
  exact readable fun r hr => ok (Fields.opcode_eq_mem hcls hmode hsz) hd hr ho rfl (h r _)

theorem imm64Form {op : BitVec 8} {s : Nat} {next : BitVec 32} (hop : f.opcode = op) (hs : f.src.toNat = s)
    {mk : Reg → BitVec 32 → BitVec 32 → Instr}
    (h : ∀ d v n, encode (mk d v n) =
        (Fields.word ⟨op, d.code, BitVec.ofNat 4 s, 0, v⟩, some (Fields.word ⟨0, 0, 0, 0, n⟩)) := by
      exact fun _ _ _ => rfl) :
    EncodesBack f (some (Fields.word ⟨0, 0, 0, 0, next⟩)) (imm64Form f next mk) :=
  zero fun ho => writable fun d hd => ok hop hd (eq_ofNat_of_toNat hs) ho rfl (h d _ _) (hw := .inr rfl)

theorem imm32Form {op : BitVec 8} {s : Nat} {next : BitVec 32} (hop : f.opcode = op) (hs : f.src.toNat = s)
    {mk : Reg → BitVec 32 → Instr}
    (h : ∀ d v, encode (mk d v) =
        (Fields.word ⟨op, d.code, BitVec.ofNat 4 s, 0, v⟩, some (Fields.word ⟨0, 0, 0, 0, 0⟩)) := by
      exact fun _ _ => rfl) :
    EncodesBack f (some (Fields.word ⟨0, 0, 0, 0, next⟩)) (imm32Form f next mk) := by
  refine check fun hz => writable fun d hd => ?_
  obtain ⟨ho, rfl⟩ : f.offset = 0 ∧ next = 0 := by simpa using hz
  exact ok hop hd (eq_ofNat_of_toNat hs) ho rfl (h d _) (hw := .inr rfl)

end

/-! ## The classes -/

section

variable {f : Fields} {second : Option (BitVec 64)}

theorem decodeAlu32 (hcls : f.cls = 4) : EncodesBack f second (decodeAlu32 f) := by
  unfold Sys2Proof.decodeAlu32
  split
  iterate 3 exact aluForm hcls ‹_›
  · exact divForm hcls ‹_›
  iterate 4 exact aluForm hcls ‹_›
  · exact negForm hcls ‹_›
  · exact divForm hcls ‹_›
  · exact aluForm hcls ‹_›
  · next hcode =>
    refine ite (fun hoff => srcForm hcls hcode hoff) fun _ => check fun hk => ?_
    have hop := Fields.opcode_eq_arith hcls hcode (Bool.eq_true_of_not_eq_false hk)
    exact ite (fun hoff => moveForm hop hoff) fun _ => ite (fun hoff => moveForm hop hoff) fun _ => error _
  · exact aluForm hcls ‹_›
  · exact source hcls ‹_› (fun _ hop => endForm hop) fun hop => endForm hop
  · exact error _

theorem decodeAlu64 (hcls : f.cls = 7) : EncodesBack f second (decodeAlu64 f) := by
  unfold Sys2Proof.decodeAlu64
  split
  iterate 3 exact aluForm hcls ‹_›
  · exact divForm hcls ‹_›
  iterate 4 exact aluForm hcls ‹_›
  · exact negForm hcls ‹_›
  · exact divForm hcls ‹_›
  · exact aluForm hcls ‹_›
  · next hcode =>
    refine ite (fun hoff => srcForm hcls hcode hoff) fun _ => check fun hk => ?_
    have hop := Fields.opcode_eq_arith hcls hcode (Bool.eq_true_of_not_eq_false hk)
    exact ite (fun hoff => moveForm hop hoff) fun _ => ite (fun hoff => moveForm hop hoff) fun _ =>
      ite (fun hoff => moveForm hop hoff) fun _ => error _
  · exact aluForm hcls ‹_›
  · exact source hcls ‹_› (fun _ _ => error _) fun hop => endForm hop
  · exact error _

theorem decodeJmp64 (hcls : f.cls = 5) : EncodesBack f second (decodeJmp64 f) := by
  unfold Sys2Proof.decodeJmp64
  split
  · refine source hcls ‹_› (fun _ _ => error _) fun hop => check fun hz => ?_
    obtain ⟨hd, hs, hv⟩ : f.dst = 0 ∧ f.src = 0 ∧ f.imm = 0 := by simpa using hz
    exact ok hop hd hs rfl hv rfl
  iterate 7 exact jccForm hcls ‹_›
  · refine source hcls ‹_› (fun _ _ => error _) fun hop => zero fun hd => ?_
    exact ite (fun hs => zero fun ho => ok hop hd hs ho rfl rfl) fun _ =>
      ite (fun hs => zero fun ho => ok hop hd hs ho rfl rfl) fun _ =>
        ite (fun hs => ok hop hd hs rfl rfl rfl) fun _ => error _
  · refine source hcls ‹_› (fun _ _ => error _) fun hop => check fun hz => ?_
    obtain ⟨hd, hs, ho, hv⟩ : f.dst = 0 ∧ f.src = 0 ∧ f.offset = 0 ∧ f.imm = 0 := by simpa using hz
    exact ok hop hd hs ho hv rfl
  iterate 4 exact jccForm hcls ‹_›
  · exact error _

theorem decodeJmp32 (hcls : f.cls = 6) : EncodesBack f second (decodeJmp32 f) := by
  unfold Sys2Proof.decodeJmp32
  split
  · refine source hcls ‹_› (fun _ _ => error _) fun hop => check fun hz => ?_
    obtain ⟨hd, hs, ho⟩ : f.dst = 0 ∧ f.src = 0 ∧ f.offset = 0 := by simpa using hz
    exact ok hop hd hs ho rfl rfl
  iterate 11 exact jccForm hcls ‹_›
  · exact error _

theorem decodeLdx (hcls : f.cls = 1) : EncodesBack f second (decodeLdx f) := by
  unfold Sys2Proof.decodeLdx
  split
  iterate 7 exact ldxForm hcls ‹_› ‹_›
  · exact error _

theorem decodeSt (hcls : f.cls = 2) : EncodesBack f second (decodeSt f) := by
  unfold Sys2Proof.decodeSt
  split
  iterate 4 exact stForm hcls ‹_› ‹_›
  · exact error _

theorem decodeAtomic32 (hop : f.opcode = memOpcode 6 0 3) : EncodesBack f second (decodeAtomic32 f) := by
  unfold Sys2Proof.decodeAtomic32
  split
  iterate 4
    · exact atomicForm hop ‹_›
    · exact fetchForm hop ‹_›
  · exact fetchForm hop ‹_›
  · exact atomicForm hop ‹_›
  · exact error _

theorem decodeAtomic64 (hop : f.opcode = memOpcode 6 3 3) : EncodesBack f second (decodeAtomic64 f) := by
  unfold Sys2Proof.decodeAtomic64
  split
  iterate 4
    · exact atomicForm hop ‹_›
    · exact fetchForm hop ‹_›
  · exact fetchForm hop ‹_›
  · exact atomicForm hop ‹_›
  · exact error _

theorem decodeStx (hcls : f.cls = 3) : EncodesBack f second (decodeStx f) := by
  unfold Sys2Proof.decodeStx
  split
  iterate 4 exact stxForm hcls ‹_› ‹_›
  · exact decodeAtomic32 (Fields.opcode_eq_mem hcls ‹_› ‹_›)
  · exact decodeAtomic64 (Fields.opcode_eq_mem hcls ‹_› ‹_›)
  · exact error _

theorem decodeWide (hop : f.opcode = memOpcode 0 3 0) : EncodesBack f second (decodeWide f second) := by
  cases second with
  | none => exact error _
  | some w =>
    refine zero fun hlow => ?_
    conv in (some w) => rw [← second_of_low_zero hlow]
    split
    · exact imm64Form hop ‹_›
    · exact imm32Form hop ‹_›
    · exact imm64Form hop ‹_›
    iterate 3 exact imm32Form hop ‹_›
    · exact imm64Form hop ‹_›
    · exact error _

theorem decodeLd (hcls : f.cls = 0) : EncodesBack f second (decodeLd f second) := by
  unfold Sys2Proof.decodeLd
  split
  · exact decodeWide (Fields.opcode_eq_mem hcls ‹_› ‹_›)
  iterate 3 exact absForm hcls ‹_› ‹_›
  iterate 3 exact indForm hcls ‹_› ‹_›
  · exact error _

end

theorem decodeFields (f : Fields) (second : Option (BitVec 64)) : EncodesBack f second (decodeFields f second) := by
  unfold Sys2Proof.decodeFields
  split
  · exact decodeLd ‹_›
  · exact decodeLdx ‹_›
  · exact decodeSt ‹_›
  · exact decodeStx ‹_›
  · exact decodeAlu32 ‹_›
  · exact decodeJmp64 ‹_›
  · exact decodeJmp32 ‹_›
  · next h0 h1 h2 h3 h4 h5 h6 =>
    have hlt : f.cls < 8 := (f.opcode.extractLsb' 0 3).isLt
    simp only [imp_false] at h0 h1 h2 h3 h4 h5 h6
    exact decodeAlu64 (by omega)

end EncodesBack

/-- Settles O2: what decodes is well formed, and each of its words is the encoder's. -/
theorem encodingUndoesDecoding : Obligations.EncodingUndoesDecoding := by
  intro w second i h
  obtain ⟨hfirst, hsecond⟩ := EncodesBack.decodeFields _ _ i h
  refine ⟨DecodesWellFormed.decodeFields _ _ i h, hfirst.trans (word_fieldsOf w), ?_⟩
  split
  · next htwo => exact hsecond.resolve_left fun hnone => (encode_second_eq_none_iff i).mp hnone htwo
  · next hone => exact (encode_second_eq_none_iff i).mpr hone

end Sys2Proof
end

section
/-! Proofs about arithmetic (R131 to R136, 40_alu.md, 40_alu_part2.md). Every two-operand instruction is `alu32 f` or
`alu64 f` of an operation on words. An operation computes an integer formula of the rules at a width; then all forms of
the instruction answer what the formula says. -/

namespace Sys2Proof.Machine

/-- The operation `f` on words of `w` bits, applied to the low bits of two register values and zero extended, is the
formula `g` of the rules on these values (R131, R132). -/
def Computes (w : Nat) (f : BitVec w → BitVec w → BitVec w) (g : Word → Word → Word) : Prop :=
  ∀ a b : Word, (f (a.setWidth w) (b.setWidth w)).setWidth 64 = g a b

/-! ## The forms of an instruction -/

section

variable {g : Word → Word → Word} {s : State} {d q : Reg} {a b : Word}

theorem Computes.alu32_imm {f : BitVec 32 → BitVec 32 → BitVec 32} (h : Computes 32 f g) (hd : s.reg d = some a)
    (imm : BitVec 32) : alu32 f d (.imm imm) s = .next (s.updated d (g a (imm.setWidth 64)) 1) := by
  have himm : (imm.setWidth 64).setWidth 32 = imm := by simp
  rw [← h, himm]
  exact readReg_some hd _

theorem Computes.alu32_reg {f : BitVec 32 → BitVec 32 → BitVec 32} (h : Computes 32 f g) (hd : s.reg d = some a)
    (hq : s.reg q = some b) : alu32 f d (.reg q) s = .next (s.updated d (g a b) 1) := by
  rw [← h]
  exact (readReg_some hd _).trans (readReg_some hq _)

theorem Computes.apply_64 {f : BitVec 64 → BitVec 64 → BitVec 64} (h : Computes 64 f g) (a b : Word) :
    f a b = g a b := by
  simpa using h a b

theorem Computes.alu64_imm {f : BitVec 64 → BitVec 64 → BitVec 64} (h : Computes 64 f g) (hd : s.reg d = some a)
    (imm : BitVec 32) : alu64 f d (.imm imm) s = .next (s.updated d (g a (imm.signExtend 64)) 1) := by
  rw [← h.apply_64]
  exact readReg_some hd _

theorem Computes.alu64_reg {f : BitVec 64 → BitVec 64 → BitVec 64} (h : Computes 64 f g) (hd : s.reg d = some a)
    (hq : s.reg q = some b) : alu64 f d (.reg q) s = .next (s.updated d (g a b) 1) := by
  rw [← h.apply_64]
  exact (readReg_some hd _).trans (readReg_some hq _)

end

/-! ## Addition, subtraction, multiplication -/

theorem ofInt_uw (w : Nat) (x : Word) : BitVec.ofInt w (uw w x) = x.setWidth w := by
  rw [uw_eq_toNat, BitVec.ofInt_natCast, BitVec.ofNat_toNat, BitVec.setWidth_eq]

theorem aluAdd_computes (w : Nat) : Computes w aluAdd (sumOf w) := fun a b => (sumOf_eq_aluAdd w a b).symm

theorem aluSub_computes (w : Nat) : Computes w aluSub (differenceOf w) := by
  intro a b
  rw [differenceOf, wrap_eq_setWidth, sub_eq_add_neg, BitVec.ofInt_add, BitVec.ofInt_neg,
    ofInt_uw, ofInt_uw, aluSub, sub_eq_add_neg]

theorem aluMul_computes (w : Nat) : Computes w aluMul (productOf w) := by
  intro a b
  rw [productOf, wrap_eq_setWidth, BitVec.ofInt_mul, ofInt_uw, ofInt_uw, aluMul]

/-- Settles O9. -/
theorem addSubMulResults : Obligations.AddSubMulResults := by
  intro s d q a b imm hd hq
  have add32 := aluAdd_computes 32
  have add64 := aluAdd_computes 64
  have sub32 := aluSub_computes 32
  have sub64 := aluSub_computes 64
  have mul32 := aluMul_computes 32
  have mul64 := aluMul_computes 64
  exact ⟨add32.alu32_imm hd imm, add32.alu32_reg hd hq, add64.alu64_imm hd imm, add64.alu64_reg hd hq,
    sub32.alu32_imm hd imm, sub32.alu32_reg hd hq, sub64.alu64_imm hd imm, sub64.alu64_reg hd hq,
    mul32.alu32_imm hd imm, mul32.alu32_reg hd hq, mul64.alu64_imm hd imm, mul64.alu64_reg hd hq⟩

/-! ## Unsigned division -/

theorem uw_eq_zero_iff (w : Nat) (x : Word) : uw w x = 0 ↔ x.setWidth w = 0 := by
  rw [uw_eq_toNat, Int.natCast_eq_zero, ← BitVec.toNat_inj, BitVec.ofNat_eq_ofNat, BitVec.toNat_ofNat, Nat.zero_mod]

theorem aluDiv_computes (w : Nat) : Computes w aluDiv (quotientOf w) := by
  intro a b
  simp only [aluDiv, quotientOf, uw_eq_zero_iff]
  split
  · simp
  · rw [wrap_eq_setWidth, uw_eq_toNat, uw_eq_toNat, ← Int.natCast_ediv, BitVec.ofInt_natCast]

theorem aluMod_computes (w : Nat) : Computes w aluMod (remainderOf w) := by
  intro a b
  simp only [aluMod, remainderOf, uw_eq_zero_iff]
  split
  · exact (wrap_uw w a).symm
  · rw [wrap_eq_setWidth, uw_eq_toNat, uw_eq_toNat, ← Int.natCast_ediv, ← Int.natCast_mul,
      ← Int.natCast_sub (Nat.mul_div_le _ _), BitVec.ofInt_natCast]

/-- Settles O10. -/
theorem unsignedDivisionResults : Obligations.UnsignedDivisionResults := by
  intro s d q a b imm hd hq
  have div32 := aluDiv_computes 32
  have div64 := aluDiv_computes 64
  have mod32 := aluMod_computes 32
  have mod64 := aluMod_computes 64
  exact ⟨div32.alu32_imm hd imm, div32.alu32_reg hd hq, div64.alu64_imm hd imm, div64.alu64_reg hd hq,
    mod32.alu32_imm hd imm, mod32.alu32_reg hd hq, mod64.alu64_imm hd imm, mod64.alu64_reg hd hq⟩

/-! ## Signed division -/

theorem aluSdiv_computes (w : Nat) : Computes (w + 1) aluSdiv (signedQuotientOf (w + 1)) := by
  intro a b
  simp only [aluSdiv, signedQuotientOf, uw_eq_zero_iff]
  split
  · simp
  · rw [wrap_eq_setWidth, sw_eq_toInt, sw_eq_toInt]

theorem aluSmod_computes (w : Nat) : Computes (w + 1) aluSmod (signedRemainderOf (w + 1)) := by
  intro a b
  simp only [aluSmod, signedRemainderOf, uw_eq_zero_iff]
  split
  · exact (wrap_uw (w + 1) a).symm
  · rw [wrap_eq_setWidth, sw_eq_toInt, sw_eq_toInt]

/-- Settles O11. -/
theorem signedDivisionResults : Obligations.SignedDivisionResults := by
  intro s d q a b imm hd hq
  have sdiv32 := aluSdiv_computes 31
  have sdiv64 := aluSdiv_computes 63
  have smod32 := aluSmod_computes 31
  have smod64 := aluSmod_computes 63
  exact ⟨sdiv32.alu32_imm hd imm, sdiv32.alu32_reg hd hq, sdiv64.alu64_imm hd imm, sdiv64.alu64_reg hd hq,
    smod32.alu32_imm hd imm, smod32.alu32_reg hd hq, smod64.alu64_imm hd imm, smod64.alu64_reg hd hq⟩

/-! ## The overflow of signed division (R135, D20) -/

theorem sw_of_uw_lowest {w : Nat} {a : Word} (h : uw (w + 1) a = 2 ^ w) : sw (w + 1) a = -2 ^ w := by
  rw [sw, h, Nat.add_sub_cancel, if_neg (lt_irrefl _), pow_succ]
  omega

theorem sw_of_uw_ones {w : Nat} {b : Word} (h : uw (w + 1) b = 2 ^ (w + 1) - 1) : sw (w + 1) b = -1 := by
  have hpos : (0 : Int) < 2 ^ w := by positivity
  rw [sw, h, Nat.add_sub_cancel, pow_succ, if_neg (by omega)]
  omega

theorem uw_ones_ne_zero {w : Nat} {b : Word} (h : uw (w + 1) b = 2 ^ (w + 1) - 1) : uw (w + 1) b ≠ 0 := by
  have hpos : (0 : Int) < 2 ^ w := by positivity
  rw [h, pow_succ]
  omega

/-- The quotient `2^w` has no two's complement reading in `w + 1` bits, and wraps to the dividend. -/
theorem signedQuotientOf_overflow {w : Nat} {a b : Word} (ha : uw (w + 1) a = 2 ^ w)
    (hb : uw (w + 1) b = 2 ^ (w + 1) - 1) : signedQuotientOf (w + 1) a b = wrap (w + 1) (2 ^ w) := by
  rw [signedQuotientOf, if_neg (uw_ones_ne_zero hb), sw_of_uw_lowest ha, sw_of_uw_ones hb, Int.tdiv_neg,
    Int.tdiv_one, neg_neg]

theorem signedRemainderOf_overflow {w : Nat} {a b : Word} (ha : uw (w + 1) a = 2 ^ w)
    (hb : uw (w + 1) b = 2 ^ (w + 1) - 1) : signedRemainderOf (w + 1) a b = 0 := by
  rw [signedRemainderOf, if_neg (uw_ones_ne_zero hb), sw_of_uw_lowest ha, sw_of_uw_ones hb, Int.tdiv_neg,
    Int.tdiv_one, neg_neg, neg_one_mul, sub_neg_eq_add, neg_add_cancel, wrap, Int.zero_emod]
  rfl

/-- Settles O12, from the formulas of O11 at the one pair of operands where the quotient overflows. -/
theorem signedDivisionOverflowWraps : Obligations.SignedDivisionOverflowWraps := by
  intro s d q a b hd hq
  obtain ⟨sdiv32Imm, sdiv32Reg, sdiv64Imm, sdiv64Reg, smod32Imm, smod32Reg, smod64Imm, smod64Reg⟩ :=
    signedDivisionResults s d q a b 0xffffffff hd hq
  refine ⟨fun ha hb => ?_, ?_⟩
  · have hlow : uw (31 + 1) a = 2 ^ 31 := by rw [uw]; omega
    have hones : uw (31 + 1) b = 2 ^ (31 + 1) - 1 := by rw [uw]; omega
    have himm : uw (31 + 1) ((0xffffffff : BitVec 32).setWidth 64) = 2 ^ (31 + 1) - 1 := by decide
    have hwrap : wrap (31 + 1) (2 ^ 31) = 0x80000000 := by decide
    rw [signedQuotientOf_overflow hlow himm, hwrap] at sdiv32Imm
    rw [signedQuotientOf_overflow hlow hones, hwrap] at sdiv32Reg
    rw [signedRemainderOf_overflow hlow himm] at smod32Imm
    rw [signedRemainderOf_overflow hlow hones] at smod32Reg
    exact ⟨sdiv32Reg, smod32Reg, sdiv32Imm, smod32Imm⟩
  · rintro rfl rfl
    have hlow : uw (63 + 1) 0x8000000000000000 = 2 ^ 63 := by decide
    have hones : uw (63 + 1) 0xffffffffffffffff = 2 ^ (63 + 1) - 1 := by decide
    have himm : (0xffffffff : BitVec 32).signExtend 64 = 0xffffffffffffffff := by decide
    have hwrap : wrap (63 + 1) (2 ^ 63) = 0x8000000000000000 := by decide
    rw [himm, signedQuotientOf_overflow hlow hones, hwrap] at sdiv64Imm
    rw [signedQuotientOf_overflow hlow hones, hwrap] at sdiv64Reg
    rw [himm, signedRemainderOf_overflow hlow hones] at smod64Imm
    rw [signedRemainderOf_overflow hlow hones] at smod64Reg
    exact ⟨sdiv64Reg, smod64Reg, sdiv64Imm, smod64Imm⟩

/-! ## Bitwise operations -/

theorem aluOr_computes (w : Nat) : Computes w aluOr fun a b => wrap w (uw w (a ||| b)) := by
  intro a b
  simp only [wrap_uw, BitVec.setWidth_or, aluOr]

theorem aluAnd_computes (w : Nat) : Computes w aluAnd fun a b => wrap w (uw w (a &&& b)) := by
  intro a b
  simp only [wrap_uw, BitVec.setWidth_and, aluAnd]

theorem aluXor_computes (w : Nat) : Computes w aluXor fun a b => wrap w (uw w (a ^^^ b)) := by
  intro a b
  simp only [wrap_uw, BitVec.setWidth_xor, aluXor]

/-- Settles O13. -/
theorem bitwiseResults : Obligations.BitwiseResults := by
  intro s d q a b imm hd hq
  have or32 := aluOr_computes 32
  have or64 := aluOr_computes 64
  have and32 := aluAnd_computes 32
  have and64 := aluAnd_computes 64
  have xor32 := aluXor_computes 32
  have xor64 := aluXor_computes 64
  exact ⟨or32.alu32_imm hd imm, or32.alu32_reg hd hq, or64.alu64_imm hd imm, or64.alu64_reg hd hq,
    and32.alu32_imm hd imm, and32.alu32_reg hd hq, and64.alu64_imm hd imm, and64.alu64_reg hd hq,
    xor32.alu32_imm hd imm, xor32.alu32_reg hd hq, xor64.alu64_imm hd imm, xor64.alu64_reg hd hq⟩

/-! ## Shifts -/

/-- Where the width is a power of two, masking the count is reducing it modulo the width (R136). -/
theorem shiftCount_setWidth {w k : Nat} (hw : w = 2 ^ k) (b : Word) : shiftCount (b.setWidth w) = b.toNat % w := by
  have hmask : w - 1 < 2 ^ w := (Nat.sub_le w 1).trans_lt Nat.lt_two_pow_self
  have hdvd : 2 ^ k ∣ 2 ^ w := Nat.pow_dvd_pow 2 (hw ▸ Nat.lt_two_pow_self.le)
  rw [shiftCount, BitVec.toNat_and, BitVec.toNat_setWidth, BitVec.toNat_ofNat, Nat.mod_eq_of_lt hmask, hw,
    Nat.and_two_pow_sub_one_eq_mod, ← hw, Nat.mod_mod_of_dvd _ (hw ▸ hdvd)]

theorem aluLsh_computes {w k : Nat} (hw : w = 2 ^ k) : Computes w aluLsh (shiftedLeft w) := by
  intro a b
  rw [aluLsh, shiftCount_setWidth hw, shiftedLeft, wrap_eq_setWidth, uw_eq_toNat, ← BitVec.ofInt_natCast,
    Int.natCast_mul, Int.natCast_pow, Nat.cast_ofNat]

theorem aluRsh_computes {w k : Nat} (hw : w = 2 ^ k) : Computes w aluRsh (shiftedRight w) := by
  intro a b
  rw [aluRsh, shiftCount_setWidth hw, shiftedRight, wrap_eq_setWidth, uw_eq_toNat, ← BitVec.ofInt_natCast,
    Int.natCast_ediv, Int.natCast_pow, Nat.cast_ofNat]

theorem aluArsh_computes {w k : Nat} (hw : w + 1 = 2 ^ k) :
    Computes (w + 1) aluArsh (shiftedRightSigned (w + 1)) := by
  intro a b
  rw [aluArsh, shiftCount_setWidth hw, shiftedRightSigned, wrap_eq_setWidth, sw_eq_toInt,
    Int.fdiv_eq_ediv_of_nonneg _ (by positivity)]

/-- Settles O14. -/
theorem shiftResults : Obligations.ShiftResults := by
  intro s d q a b imm hd hq
  have lsh32 := aluLsh_computes (show 32 = 2 ^ 5 by rfl)
  have lsh64 := aluLsh_computes (show 64 = 2 ^ 6 by rfl)
  have rsh32 := aluRsh_computes (show 32 = 2 ^ 5 by rfl)
  have rsh64 := aluRsh_computes (show 64 = 2 ^ 6 by rfl)
  have arsh32 := aluArsh_computes (show 31 + 1 = 2 ^ 5 by rfl)
  have arsh64 := aluArsh_computes (show 63 + 1 = 2 ^ 6 by rfl)
  exact ⟨lsh32.alu32_imm hd imm, lsh32.alu32_reg hd hq, lsh64.alu64_imm hd imm, lsh64.alu64_reg hd hq,
    rsh32.alu32_imm hd imm, rsh32.alu32_reg hd hq, rsh64.alu64_imm hd imm, rsh64.alu64_reg hd hq,
    arsh32.alu32_imm hd imm, arsh32.alu32_reg hd hq, arsh64.alu64_imm hd imm, arsh64.alu64_reg hd hq⟩

/-! ## The upper half of a 32-bit result -/

/-- Settles O18: the class ALU occurs in one shape only, the one that writes a single result. -/
theorem thirtyTwoBitResultsZeroTheUpperHalf : Obligations.ThirtyTwoBitResultsZeroTheUpperHalf := by
  intro i s t hclass hgroup h
  cases exec_shape h with
  | result d v hw _ _ _ _ h32 ht => exact ⟨d, v, hw, ht ▸ State.result_reg_same s d v, h32 hclass hgroup⟩
  | resultWide _ _ _ _ _ _ _ hk => omega
  | branch _ _ _ _ _ hk => omega
  | jump _ _ _ _ hk => omega
  | store _ _ _ _ _ _ _ _ _ _ _ _ _ hk => omega
  | fetch _ _ _ _ _ _ _ _ _ _ _ _ _ _ hk => omega
  | helper _ _ _ _ _ hk => omega
  | call _ _ _ _ hk => omega
  | finish _ _ _ _ _ hk => omega
  | leave _ _ _ _ _ hk => omega

end Sys2Proof.Machine
end

section
/-! Two byte swaps in a row (R211, R212, R215, R223). The byte function of each swap is its own inverse, on either host:
it is the identity or a byte reversal. A swap by such a function, executed twice, truncates its operand. -/

namespace Sys2Proof.Machine

/-! ## The functions of R15 are their own inverses -/

theorem eq_of_bytes_eq {n : Nat} {x y : BitVec (8 * n)}
    (h : ∀ k < n, x.extractLsb' (8 * k) 8 = y.extractLsb' (8 * k) 8) : x = y := by
  refine BitVec.eq_of_getLsbD_eq fun i hi => ?_
  have hbit := congrArg (·.getLsbD (i % 8)) (h (i / 8) (by omega))
  simpa [BitVec.getLsbD_extractLsb', Nat.mod_lt, Nat.div_add_mod] using hbit

/-- Place `k` goes to place `n - 1 - k`, which goes to place `k`. -/
theorem HoldsReversed.twice {n : Nat} {v x y : BitVec (8 * n)} (hx : HoldsReversed n v x) (hy : HoldsReversed n x y) :
    y = v := by
  refine eq_of_bytes_eq fun k hk => ?_
  calc y.extractLsb' (8 * k) 8
      = x.extractLsb' (8 * (n - 1 - k)) 8 := hy k hk
    _ = v.extractLsb' (8 * (n - 1 - (n - 1 - k))) 8 := hx _ (by omega)
    _ = v.extractLsb' (8 * k) 8 := by rw [show n - 1 - (n - 1 - k) = k by omega]

theorem involutive_of_holdsReversed (n : Nat) {f : BitVec (8 * n) → BitVec (8 * n)} (hf : ∀ v, HoldsReversed n v (f v)) :
    f.Involutive :=
  fun v => (hf v).twice (hf (f v))

theorem bswap16_involutive : bswap16.Involutive := involutive_of_holdsReversed 2 bswap16_holdsReversed
theorem bswap32_involutive : bswap32.Involutive := involutive_of_holdsReversed 4 bswap32_holdsReversed
theorem bswap64_involutive : bswap64.Involutive := involutive_of_holdsReversed 8 bswap64_holdsReversed

theorem toLittle_involutive {w : Nat} {f : BitVec w → BitVec w} (hf : f.Involutive) (e : Endian) :
    (toLittle e f).Involutive := by
  cases e with
  | little => exact fun _ => rfl
  | big => exact hf

theorem toBig_involutive {w : Nat} {f : BitVec w → BitVec w} (hf : f.Involutive) (e : Endian) :
    (toBig e f).Involutive := by
  cases e with
  | little => exact hf
  | big => exact fun _ => rfl

/-! ## A register written twice -/

theorem Regs.set_set (g : Regs) (r : Reg) (u v : Option Word) : (g.set r u).set r v = g.set r v := by
  cases r <;> rfl

theorem State.updated_reg_same (s : State) (r : Reg) (v : Word) (n : Int) : (s.updated r v n).reg r = some v :=
  Regs.get_set_same s.regs r (some v)

theorem State.updated_updated (s : State) (r : Reg) (u v : Word) (m n : Int) :
    (s.updated r u m).updated r v n = s.updated r v (m + n) := by
  simp only [State.updated, Regs.set_set, Int.add_assoc]

/-! ## A swap executed twice -/

theorem involutive_apply_zeroExtended {w : Nat} {f : BitVec w → BitVec w} (hf : f.Involutive) (hw : w ≤ 64)
    (v : BitVec w) : f (((f v).setWidth 64).setWidth w) = v := by
  rw [BitVec.setWidth_setWidth_of_le _ hw, BitVec.setWidth_eq, hf]

/-- The first swap's result is `f` of the operand, zero extended; the second one truncates it again and applies `f`. -/
theorem swapForm_after_swap {w : Nat} {f : BitVec w → BitVec w} (hf : f.Involutive) (hw : w ≤ 64) (s : State) (d : Reg)
    (a : Word) :
    swapForm f d (s.updated d ((f (a.setWidth w)).setWidth 64) 1) = .next (s.updated d (wrap w (uw w a)) 2) := by
  rw [swapForm_some f (State.updated_reg_same _ _ _ _), involutive_apply_zeroExtended hf hw, State.updated_updated,
    wrap_uw, one_add_one_eq_two]

/-- A swap keeps the host's byte order `s.plat.endian`, so that both executions are by the same function. -/
theorem exec_swap_twice {i : Instr} {d : Reg} {w : Nat} {f : Endian → BitVec w → BitVec w}
    (hi : ∀ s, exec i s = swapForm (f s.plat.endian) d s) (hf : ∀ e, (f e).Involutive) (hw : w ≤ 64)
    {s : State} {a : Word} (h : s.reg d = some a) :
    ∃ t, exec i s = .next t ∧ exec i t = .next (s.updated d (wrap w (uw w a)) 2) :=
  ⟨_, (hi s).trans (swapForm_some _ h), (hi _).trans (swapForm_after_swap (hf s.plat.endian) hw s d a)⟩

/-- Settles O17: the byte function of each swap is its own inverse. -/
theorem swapTwiceTruncates : Obligations.SwapTwiceTruncates := by
  intro s d a h
  exact ⟨exec_swap_twice (exec_le16 d) (toLittle_involutive bswap16_involutive) (by decide) h,
    exec_swap_twice (exec_le32 d) (toLittle_involutive bswap32_involutive) (by decide) h,
    exec_swap_twice (exec_le64 d) (toLittle_involutive bswap64_involutive) (by decide) h,
    exec_swap_twice (exec_be16 d) (toBig_involutive bswap16_involutive) (by decide) h,
    exec_swap_twice (exec_be32 d) (toBig_involutive bswap32_involutive) (by decide) h,
    exec_swap_twice (exec_be64 d) (toBig_involutive bswap64_involutive) (by decide) h,
    exec_swap_twice (exec_bswap16 d) (fun _ => bswap16_involutive) (by decide) h,
    exec_swap_twice (exec_bswap32 d) (fun _ => bswap32_involutive) (by decide) h,
    exec_swap_twice (exec_bswap64 d) (fun _ => bswap64_involutive) (by decide) h⟩

end Sys2Proof.Machine
end

section
/-! Proofs about the conditional jumps (R230 to R233, 42_jump_conditional.md), about the calls of platform functions
(R246, R247) and about what an instruction keeps outside registers, memory and `pc`. Every conditional jump is `jump32 c`
or `jump64 c` of a condition on words. A condition decides a comparison of the table of R233 at a width; then all forms
of the instruction go where the comparison says. -/

namespace Sys2Proof.Machine

/-- The condition `c` on words of `w` bits, on the low bits of two register values, holds exactly if the comparison `p` of
the table of R233 holds between these values (R231, R233). -/
def Decides (w : Nat) (c : BitVec w → BitVec w → Bool) (p : Word → Word → Prop) : Prop :=
  ∀ a b : Word, c (a.setWidth w) (b.setWidth w) = true ↔ p a b

/-! ## The forms of a conditional jump -/

theorem State.branch_eq_movedTo (s : State) {taken : Bool} {p : Prop} [Decidable p] (h : taken = true ↔ p)
    (off : BitVec 16) : s.branch taken off = s.movedTo (if p then s.pc + 1 + off.toInt else s.pc + 1) := by
  by_cases hp : p
  · rw [if_pos hp, h.2 hp]
    rfl
  · rw [if_neg hp, Bool.eq_false_iff.2 (mt h.1 hp)]
    rfl

section

variable {p : Word → Word → Prop} [∀ a b, Decidable (p a b)] {s : State} {d q : Reg} {a b : Word}

theorem Decides.jump32_reg {c : BitVec 32 → BitVec 32 → Bool} (h : Decides 32 c p) (hd : s.reg d = some a)
    (hq : s.reg q = some b) (off : BitVec 16) :
    jump32 c d (.reg q) off s = .next (s.movedTo (if p a b then s.pc + 1 + off.toInt else s.pc + 1)) := by
  rw [← s.branch_eq_movedTo (h a b)]
  exact (readReg_some hd _).trans (readReg_some hq _)

theorem Decides.jump32_imm {c : BitVec 32 → BitVec 32 → Bool} (h : Decides 32 c p) (hd : s.reg d = some a)
    (imm : BitVec 32) (off : BitVec 16) :
    jump32 c d (.imm imm) off s =
      .next (s.movedTo (if p a (imm.setWidth 64) then s.pc + 1 + off.toInt else s.pc + 1)) := by
  have himm : (imm.setWidth 64).setWidth 32 = imm := by simp
  rw [← s.branch_eq_movedTo (h a _), himm]
  exact readReg_some hd _

theorem Decides.jump64_reg {c : BitVec 64 → BitVec 64 → Bool} (h : Decides 64 c p) (hd : s.reg d = some a)
    (hq : s.reg q = some b) (off : BitVec 16) :
    jump64 c d (.reg q) off s = .next (s.movedTo (if p a b then s.pc + 1 + off.toInt else s.pc + 1)) := by
  rw [← s.branch_eq_movedTo (h a b), BitVec.setWidth_eq, BitVec.setWidth_eq]
  exact (readReg_some hd _).trans (readReg_some hq _)

theorem Decides.jump64_imm {c : BitVec 64 → BitVec 64 → Bool} (h : Decides 64 c p) (hd : s.reg d = some a)
    (imm : BitVec 32) (off : BitVec 16) :
    jump64 c d (.imm imm) off s =
      .next (s.movedTo (if p a (imm.signExtend 64) then s.pc + 1 + off.toInt else s.pc + 1)) := by
  rw [← s.branch_eq_movedTo (h a _), BitVec.setWidth_eq, BitVec.setWidth_eq]
  exact readReg_some hd _

end

/-! ## The conditions of R233 -/

theorem uw_lt_uw_iff (w : Nat) (a b : Word) : uw w a < uw w b ↔ (a.setWidth w).toNat < (b.setWidth w).toNat := by
  rw [uw_eq_toNat, uw_eq_toNat, Int.ofNat_lt]

theorem uw_le_uw_iff (w : Nat) (a b : Word) : uw w a ≤ uw w b ↔ (a.setWidth w).toNat ≤ (b.setWidth w).toNat := by
  rw [uw_eq_toNat, uw_eq_toNat, Int.ofNat_le]

theorem condEq_decides (w : Nat) : Decides w condEq fun a b => uw w a = uw w b :=
  fun a b => beq_iff_eq.trans (uw_inj w a b).symm

theorem condNe_decides (w : Nat) : Decides w condNe fun a b => uw w a ≠ uw w b :=
  fun a b => bne_iff_ne.trans (uw_inj w a b).symm.not

theorem condSet_decides (w : Nat) : Decides w condSet fun a b => uw w (a &&& b) ≠ 0 := by
  intro a b
  rw [condSet, ← BitVec.setWidth_and, bne_iff_ne]
  exact (uw_eq_zero_iff w (a &&& b)).symm.not

theorem condLt_decides (w : Nat) : Decides w condLt fun a b => uw w a < uw w b :=
  fun a b => decide_eq_true_iff.trans (uw_lt_uw_iff w a b).symm

theorem condLe_decides (w : Nat) : Decides w condLe fun a b => uw w a ≤ uw w b :=
  fun a b => decide_eq_true_iff.trans (uw_le_uw_iff w a b).symm

theorem condSlt_decides (w : Nat) : Decides (w + 1) condSlt fun a b => sw (w + 1) a < sw (w + 1) b := by
  intro a b
  simp only [condSlt, decide_eq_true_iff, sw_eq_toInt]

theorem condSle_decides (w : Nat) : Decides (w + 1) condSle fun a b => sw (w + 1) a ≤ sw (w + 1) b := by
  intro a b
  simp only [condSle, decide_eq_true_iff, sw_eq_toInt]

/-! Each "greater" is the corresponding "less" with its operands exchanged. -/

theorem condGt_decides (w : Nat) : Decides w condGt fun a b => uw w a > uw w b :=
  fun a b => condLt_decides w b a

theorem condGe_decides (w : Nat) : Decides w condGe fun a b => uw w a ≥ uw w b :=
  fun a b => condLe_decides w b a

theorem condSgt_decides (w : Nat) : Decides (w + 1) condSgt fun a b => sw (w + 1) a > sw (w + 1) b :=
  fun a b => condSlt_decides w b a

theorem condSge_decides (w : Nat) : Decides (w + 1) condSge fun a b => sw (w + 1) a ≥ sw (w + 1) b :=
  fun a b => condSle_decides w b a

/-! ## The conditional jumps -/

/-- Settles O19: each jump of class JMP is `jump64` of a condition that decides its row of the table at 64 bits. -/
theorem conditionalJumps64 : Obligations.ConditionalJumps64 := by
  intro s d q a b imm off hd hq
  have jeq := condEq_decides 64
  have jne := condNe_decides 64
  have jset := condSet_decides 64
  have jgt := condGt_decides 64
  have jge := condGe_decides 64
  have jlt := condLt_decides 64
  have jle := condLe_decides 64
  have jsgt := condSgt_decides 63
  have jsge := condSge_decides 63
  have jslt := condSlt_decides 63
  have jsle := condSle_decides 63
  exact ⟨jeq.jump64_imm hd imm off, jeq.jump64_reg hd hq off, jne.jump64_imm hd imm off, jne.jump64_reg hd hq off,
    jset.jump64_imm hd imm off, jset.jump64_reg hd hq off, jgt.jump64_imm hd imm off, jgt.jump64_reg hd hq off,
    jge.jump64_imm hd imm off, jge.jump64_reg hd hq off, jlt.jump64_imm hd imm off, jlt.jump64_reg hd hq off,
    jle.jump64_imm hd imm off, jle.jump64_reg hd hq off, jsgt.jump64_imm hd imm off, jsgt.jump64_reg hd hq off,
    jsge.jump64_imm hd imm off, jsge.jump64_reg hd hq off, jslt.jump64_imm hd imm off, jslt.jump64_reg hd hq off,
    jsle.jump64_imm hd imm off, jsle.jump64_reg hd hq off⟩

/-- Settles O20: as O19, at 32 bits. -/
theorem conditionalJumps32 : Obligations.ConditionalJumps32 := by
  intro s d q a b imm off hd hq
  have jeq := condEq_decides 32
  have jne := condNe_decides 32
  have jset := condSet_decides 32
  have jgt := condGt_decides 32
  have jge := condGe_decides 32
  have jlt := condLt_decides 32
  have jle := condLe_decides 32
  have jsgt := condSgt_decides 31
  have jsge := condSge_decides 31
  have jslt := condSlt_decides 31
  have jsle := condSle_decides 31
  exact ⟨jeq.jump32_imm hd imm off, jeq.jump32_reg hd hq off, jne.jump32_imm hd imm off, jne.jump32_reg hd hq off,
    jset.jump32_imm hd imm off, jset.jump32_reg hd hq off, jgt.jump32_imm hd imm off, jgt.jump32_reg hd hq off,
    jge.jump32_imm hd imm off, jge.jump32_reg hd hq off, jlt.jump32_imm hd imm off, jlt.jump32_reg hd hq off,
    jle.jump32_imm hd imm off, jle.jump32_reg hd hq off, jsgt.jump32_imm hd imm off, jsgt.jump32_reg hd hq off,
    jsge.jump32_imm hd imm off, jsge.jump32_reg hd hq off, jslt.jump32_imm hd imm off, jslt.jump32_reg hd hq off,
    jsle.jump32_imm hd imm off, jsle.jump32_reg hd hq off⟩

/-! ## Calls of platform functions -/

theorem callPlatform_returns {s : State} {ref : HelperRef} {v : Word} {ws : List (Word × Byte)}
    (h : s.platformCall ref = some (.returns v ws)) (id : Int) :
    callPlatform s ref id = .next ((s.afterHelper v ws).advance 1) := by
  rw [callPlatform, h]

/-- Settles O28. -/
theorem platformCallResults : Obligations.PlatformCallResults :=
  fun _ _ _ _ _ => ⟨fun h => callPlatform_returns h _, fun h => callPlatform_returns h _⟩

/-! ## What an instruction keeps -/

theorem State.branch_eq_pc (s : State) (taken : Bool) (off : BitVec 16) :
    s.branch taken off = { s with pc := (s.branch taken off).pc } := by
  cases taken <;> rfl

/-- Settles O47: of the shapes of a next state, only those of a call or an exit change another field. -/
theorem otherStateFrame : Obligations.OtherStateFrame := by
  intro i s t h hcall
  cases exec_shape h with
  | result _ _ _ _ _ _ _ _ ht => exact ht ▸ rfl
  | resultWide _ _ _ _ _ _ _ _ ht => exact ht ▸ rfl
  | branch taken off _ _ _ _ ht =>
    subst ht
    simpa using s.branch_eq_pc taken off
  | jump _ _ _ _ _ ht => exact ht ▸ rfl
  | store _ _ _ _ _ _ _ _ _ _ _ _ _ _ ht => exact ht ▸ rfl
  | fetch _ _ _ _ _ _ _ _ _ _ _ _ _ _ _ ht => exact ht ▸ rfl
  | helper _ _ _ _ hc => simp [hc] at hcall
  | call _ _ _ hc => simp [hc] at hcall
  | finish _ _ _ _ hc => simp [hc] at hcall
  | leave _ _ _ _ hc => simp [hc] at hcall

end Sys2Proof.Machine
end

section
/-! Proofs about the legacy packet loads (R378, 46_legacy_packet.md). The spec gives them no meaning: a platform without
their group does not decode them, and of a run that meets a refusal nothing can be claimed (R411). -/

namespace Sys2Proof.Machine

/-! ## Claims about a refused run -/

section

variable {s : State} {r : Refusal}

theorem not_safeFor_of_refused (hs : s.status = .running) (h : step s = .refused r) (n : Nat) : ¬safeFor (n + 1) s := by
  rintro ⟨t, ht, -⟩
  rw [observeRun_refused hs h n] at ht
  cases ht

theorem not_returnsWithin_of_refused (hs : s.status = .running) (h : step s = .refused r) (n : Nat) (v : Word) :
    ¬returnsWithin (n + 1) s v := by
  rintro ⟨t, ht, -⟩
  rw [observeRun_refused hs h n] at ht
  cases ht

end

/-! ## The packet group -/

/-- The default platform does not list the group `packet`, and no other group includes it (R121). -/
theorem decodeFor_default_of_packet {a : Slot} {b : Option Slot} {i : Instr} (h : decodeSlots .little a b = .ok i)
    (hg : i.group = .packet) : decodeFor Platform.default a b = .error .unsupportedGroup := by
  obtain ⟨-, hillegal⟩ := groupsFilterDecoding Platform.default a b i h
  rw [hg] at hillegal
  exact hillegal (by decide) (by decide) (by decide) (by decide)

/-- Settles O43: the meaning of each packet load is the refusal; the rest follows from the rule for conformance groups
and from what is observed of a refused run. -/
theorem packetLoadsAreRefused : Obligations.PacketLoadsAreRefused := by
  intro s q imm a b i r n v
  refine ⟨rfl, rfl, rfl, rfl, rfl, rfl, decodeFor_default_of_packet, fun hs h => ⟨?_, ?_⟩⟩
  · exact not_safeFor_of_refused hs h n
  · exact not_returnsWithin_of_refused hs h n v

end Sys2Proof.Machine
end

section
/-! Proofs about the exceptions of calls and of platform functions (R410, R412, R413) and about what an observer sees
after a fault (R401). -/

namespace Sys2Proof.Machine

/-! ## The depth of the call stack -/

theorem exec_callLocal_too_deep {s : State} (imm : BitVec 32) (h : s.frames.length + 2 > s.plat.maxCallDepth) :
    exec (.callLocal imm) s = .fault .callDepthExceeded :=
  if_pos h

/-- Settles O23: a call that the limit allows answers a next state. -/
theorem localCallDepthLimit : Obligations.LocalCallDepthLimit := by
  intro s imm
  refine ⟨fun hfault => ?_, exec_callLocal_too_deep imm⟩
  by_contra hdepth
  rw [exec_callLocal imm (Nat.not_lt.1 hdepth)] at hfault
  cases hfault

/-! ## Calls of platform functions -/

section

variable {s : State} {ref : HelperRef}

theorem callPlatform_undefined (h : s.platformCall ref = none) (id : Int) :
    callPlatform s ref id = .fault (.unknownHelper id) := by
  rw [callPlatform, h]
  rfl

theorem callPlatform_fails (h : s.platformCall ref = some .fails) (id : Int) :
    callPlatform s ref id = .fault .platformFault := by
  rw [callPlatform, h]
  rfl

end

/-- Settles O29. -/
theorem unknownHelperFaults : Obligations.UnknownHelperFaults :=
  fun _ _ _ => ⟨fun h => callPlatform_undefined h _, fun h => callPlatform_undefined h _⟩

/-! ## Platform functions that are undefined -/

theorem platformForm_none {v : Option Word} (d : Reg) (s : State) (h : v = none) :
    platformForm v d s = .fault .platformFault :=
  h ▸ rfl

theorem mapValueForm_no_map {m : Option Word} (d : Reg) (nx : BitVec 32) (s : State) (h : m = none) :
    mapValueForm m d nx s = .fault .platformFault :=
  h ▸ rfl

theorem mapValueForm_no_values {m : Option Word} {x : Word} (d : Reg) (nx : BitVec 32) {s : State} (hm : m = some x)
    (hval : s.plat.mapVal.lookup x = none) : mapValueForm m d nx s = .fault .platformFault := by
  rw [hm, mapValueForm, platformValue, hval]
  rfl

/-- Settles O42: the four address forms, then the value forms without a map and with a map that has no values, then the
two calls. -/
theorem platformFaults : Obligations.PlatformFaults := by
  intro s d imm nx off
  exact ⟨platformForm_none d s, platformForm_none d s, platformForm_none d s, platformForm_none d s,
    mapValueForm_no_map d nx s, mapValueForm_no_map d nx s, fun _ => mapValueForm_no_values d nx,
    fun _ => mapValueForm_no_values d nx, fun h => callPlatform_fails h _, fun h => callPlatform_fails h _⟩

/-! ## After a fault -/

theorem observe_fault {s : State} {f : Fault} (h : step s = .fault f) : observe s = some (s.envTurn.frozen f) := by
  rw [observe, h]

theorem step_frozen (s : State) (f : Fault) : step (s.frozen f) = .refused .runEnded :=
  step_ended (by simp)

/-- Settles O59. -/
theorem faultFreezesState : Obligations.FaultFreezesState := by
  intro s f h
  exact ⟨s.envTurn.frozen f, observe_fault h, rfl, s.envTurn_regs, s.envTurn_pc, s.envTurn_frames, step_frozen _ f⟩

end Sys2Proof.Machine
end

section
/-! Proofs about the state after reset (R440, R441, notes/assumptions/1.md, notes/assumptions/3.md). -/

namespace Sys2Proof.Machine

/-- The registers that R441 gives no value hold 0 after reset (notes/assumptions/1.md). -/
theorem State.reset_reg_of_ne {r : Reg} (hctx : r ≠ .r1) (hfp : r ≠ .r10) : State.reset.reg r = some 0 := by
  cases r with
  | r1 => exact absurd rfl hctx
  | r10 => exact absurd rfl hfp
  | r0 | r2 | r3 | r4 | r5 | r6 | r7 | r8 | r9 => rfl

/-- Settles O58: all but the registers is as in the start state of the spec; R1 and R10 hold the default platform's
parameters, the other registers 0. -/
theorem resetState : Obligations.ResetState := by
  obtain ⟨hpc, hframes, hstatus, hplat, hprog, hmem, henv, -⟩ := startStateOfTheSpec Platform.default [] [] []
  refine ⟨hpc, hframes, hstatus, hmem, hprog, henv, hplat, rfl, rfl, fun r hr => State.reset_reg_of_ne ?_ ?_⟩
  · rintro rfl
    simp at hr
  · rintro rfl
    simp at hr

end Sys2Proof.Machine
end

section
/-! Proof about the bytes of a fresh frame's stack (R442, notes/assumptions/5.md). -/

namespace Sys2Proof.Machine

/-- Settles O24: a call that answers a next state has entered the frame and jumped. The jump changes no byte, and entering
the frame gives its stack the free values of the draw it takes. -/
theorem freshStackIsUnwritten : Obligations.FreshStackIsUnwritten := by
  intro s t imm a hcall hstack
  obtain ⟨_, rfl⟩ := callFrame_next hcall
  rw [State.byteAt_jump, State.byteAt_enterFrame_inside s a hstack]

end Sys2Proof.Machine
end
